-- ==== Sys2Proof/Word.lean ====
section
/-!
DEFINITION. The bytes, 16-bit values and byte sequences of the block (00_scope R7, R8).
-/

namespace Sys2Proof

/-- A byte: 8 bits, unsigned (R7). -/
abbrev Byte := BitVec 8

/-- An unsigned 16-bit value (R7). -/
abbrev U16 := BitVec 16

/-- A byte sequence, indexed from 0 (R8). -/
abbrev Bytes := List Byte

end Sys2Proof
end

