-- ==== Sys2Proof/Machine/Operands.lean ====
section
/-!
DEFINITION. The operand forms: reads of a byte sequence and the byte order of multi-byte fields (00_scope R8, R9;
20_memory R52, R55).
-/

namespace Sys2Proof.Machine

/-- `b[i]` as a total read (R8, R55). Out of range it answers `0x00`, which no rule observes (R57). -/
def byteAt (b : Bytes) (i : Nat) : Byte := b.getD i 0

/-- `le16(b, i) = b[i] + 256 * b[i+1]` (R9, R52). -/
def le16 (b : Bytes) (i : Nat) : U16 := byteAt b (i + 1) ++ byteAt b i

/-- `b[i..j)`, empty when `i >= j` (R8). -/
def slice (b : Bytes) (i j : Nat) : Bytes := (b.drop i).take (j - i)

/-- A 4-byte little-endian operand of a host operation (R84). -/
def le32 (b : Bytes) (i : Nat) : Nat :=
  (byteAt b i).toNat + 256 * (byteAt b (i + 1)).toNat + 65536 * (byteAt b (i + 2)).toNat +
    16777216 * (byteAt b (i + 3)).toNat

/-- `v[7:0]`, `v[15:8]`: a 16-bit field in wire order (R52, R53). -/
def u16Bytes (v : U16) : Bytes := [v.extractLsb' 0 8, v.extractLsb' 8 8]

/-- A number as 4 bytes, little-endian (R84). -/
def nat32Bytes (n : Nat) : Bytes :=
  [BitVec.ofNat 8 n, BitVec.ofNat 8 (n / 256), BitVec.ofNat 8 (n / 65536), BitVec.ofNat 8 (n / 16777216)]

end Sys2Proof.Machine
end

