-- ==== Sys2Proof/Syntax.lean ====
section
/-!
DEFINITION. The instructions: one constructor per row of spec/opcode_table.json (30_encoding R93), in the table's order.
-/

namespace Sys2Proof

/-- Host operations, the three decoded formats, the datapath micro-operations, the reset event and the pseudo-operations. -/
inductive Instr where
  /-- `INIT`: the memory byte and `bufferLimit` (R84, R190). -/
  | init (memory : Byte) (limit : Nat)
  /-- `ADD_DATA`: the chunk (R84, R197). -/
  | addData (chunk : Bytes)
  /-- `GET_FRAMES` (R84, R198). -/
  | getFrames
  /-- Reserved operation byte `0x03` (R84, R202). -/
  | reservedOp03
  /-- Reserved operation bytes `0x04` to `0x07`, the low bits as operand (R84, R202). -/
  | reservedOp04 (low : BitVec 2)
  /-- Reserved operation bytes `0x08` to `0x0F` (R84, R202). -/
  | reservedOp08 (low : BitVec 3)
  /-- Reserved operation bytes `0x10` to `0x1F` (R84, R202). -/
  | reservedOp10 (low : BitVec 4)
  /-- Reserved operation bytes `0x20` to `0x3F` (R84, R202). -/
  | reservedOp20 (low : BitVec 5)
  /-- Reserved operation bytes `0x40` to `0x7F` (R84, R202). -/
  | reservedOp40 (low : BitVec 6)
  /-- Reserved operation bytes `0x80` to `0xFF` (R84, R202). -/
  | reservedOp80 (low : BitVec 7)
  /-- A frame on the wire (R71, R72): the sync bytes are fixed and the length field is the payload's length, so the
  operands are id, class, payload, the CRC field and the terminator byte as they stand on the wire. -/
  | frame (messageId messageClass : Byte) (payload : Bytes) (crc : U16) (terminator : Byte)
  /-- The payload of a large frame (R77). -/
  | large (transmissionId : Byte) (pageIndex totalPages : U16) (pageData : Bytes)
  /-- Class byte `0x00` (R80). -/
  | classLog
  /-- Class byte `0x01` (R80). -/
  | classHighFrequency
  /-- Class byte `0x02` (R80). -/
  | classNmeaStandard
  /-- Class byte `0x03` (R80). -/
  | classNmeaProprietary
  /-- Class byte `0x04` (R80). -/
  | classThirdParty
  /-- Class byte `0x10` (R80). -/
  | classCommand
  /-- Class byte `0x05` (R80). -/
  | classUnknown05
  /-- Class bytes `0x06`, `0x07` (R80). -/
  | classUnknown06 (low : BitVec 1)
  /-- Class bytes `0x08` to `0x0F` (R80). -/
  | classUnknown08 (low : BitVec 3)
  /-- Class byte `0x11` (R80). -/
  | classUnknown11
  /-- Class bytes `0x12`, `0x13` (R80). -/
  | classUnknown12 (low : BitVec 1)
  /-- Class bytes `0x14` to `0x17` (R80). -/
  | classUnknown14 (low : BitVec 2)
  /-- Class bytes `0x18` to `0x1F` (R80). -/
  | classUnknown18 (low : BitVec 3)
  /-- Class bytes `0x20` to `0x3F` (R80). -/
  | classUnknown20 (low : BitVec 5)
  /-- Class bytes `0x40` to `0x7F` (R80). -/
  | classUnknown40 (low : BitVec 6)
  /-- Class bytes `0x80` to `0xFF` (R80). -/
  | classUnknown80 (low : BitVec 7)
  /-- `CRC_RESET` (R101). -/
  | crcReset
  /-- `CRC_UPDATE(b)` (R102). -/
  | crcUpdate (b : Byte)
  /-- `COMPUTE_CRC(bytes)` (R103). -/
  | computeCrc (bytes : Bytes)
  /-- `READ_HEADER(bytes)` (R120). -/
  | readHeader (bytes : Bytes)
  /-- `READ_FOOTER(bytes)` (R123). -/
  | readFooter (bytes : Bytes)
  /-- `IS_LARGE(payloadLength)` (R135). -/
  | isLarge (payloadLength : U16)
  /-- `DECODE_LARGE(payload)` (R136). -/
  | decodeLarge (payload : Bytes)
  /-- `CLASS_TO_TYPE(messageClass)` (R145). -/
  | classToType (messageClass : Byte)
  /-- `DISPATCH(class, id, payload)` (R148). -/
  | dispatch (messageClass messageId : Byte) (payload : Bytes)
  /-- `FIND_LAST_SYNC(buf)` (R157). -/
  | findLastSync (buf : Bytes)
  /-- `FIND_NEXT_SYNC(buf, cursor)` (R158). -/
  | findNextSync (buf : Bytes) (cursor : Nat)
  /-- `PARSE_CANDIDATE(c)` (R162). -/
  | parseCandidate (c : Bytes)
  /-- `PARSE_PASS(buf)` (R174). -/
  | parsePass (buf : Bytes)
  /-- `TRIM(retained, bufferLimit)` (R173). -/
  | trim (retained : Bytes) (limit : Nat)
  /-- The reset event (R240). -/
  | reset
  /-- Pseudo-operation `FRAME(id, class, payload)` (R91). -/
  | pseudoFrame (messageId messageClass : Byte) (payload : Bytes)
  /-- Pseudo-operation `FRAME_BADCRC(id, class, payload)` (R91). -/
  | pseudoFrameBadCrc (messageId messageClass : Byte) (payload : Bytes)
  /-- Pseudo-operation `FRAME_BADETX(id, class, payload)` (R91). -/
  | pseudoFrameBadEtx (messageId messageClass : Byte) (payload : Bytes)
  /-- Pseudo-operation `ADD_FRAME id class payload` (R91). -/
  | addFrame (messageId messageClass : Byte) (payload : Bytes)
  /-- Pseudo-operation `LARGE_PAYLOAD(tid, page, total, data)` (R92). -/
  | largePayload (transmissionId : Byte) (pageIndex totalPages : U16) (data : Bytes)
  /-- Pseudo-operation `REP(b, k)` (R92). -/
  | rep (b : Byte) (k : Nat)
deriving DecidableEq, Repr

/-- The formats of R70 and R93. -/
inductive InstrFormat where
  | hostOp
  | frame
  | large
  | cls
  | micro
  | pseudo
deriving DecidableEq, Repr

/-- The format column of the opcode table (R93). -/
def Instr.format : Instr → InstrFormat
  | .init .. | .addData _ | .getFrames | .reservedOp03 | .reservedOp04 _ | .reservedOp08 _ | .reservedOp10 _
  | .reservedOp20 _ | .reservedOp40 _ | .reservedOp80 _ => .hostOp
  | .frame .. => .frame
  | .large .. => .large
  | .classLog | .classHighFrequency | .classNmeaStandard | .classNmeaProprietary | .classThirdParty | .classCommand
  | .classUnknown05 | .classUnknown06 _ | .classUnknown08 _ | .classUnknown11 | .classUnknown12 _ | .classUnknown14 _
  | .classUnknown18 _ | .classUnknown20 _ | .classUnknown40 _ | .classUnknown80 _ => .cls
  | .crcReset | .crcUpdate _ | .computeCrc _ | .readHeader _ | .readFooter _ | .isLarge _ | .decodeLarge _
  | .classToType _ | .dispatch .. | .findLastSync _ | .findNextSync .. | .parseCandidate _ | .parsePass _ | .trim ..
  | .reset => .micro
  | .pseudoFrame .. | .pseudoFrameBadCrc .. | .pseudoFrameBadEtx .. | .addFrame .. | .largePayload .. | .rep .. => .pseudo

end Sys2Proof
end

