-- ==== Sys2Proof/Machine/Records.lean ====
section
/-!
DEFINITION. The records and enumerations that the spec's state is made of (10_state R22 to R35, 60_exceptions R210, R222).
-/

namespace Sys2Proof.Machine

/-- The header latch and the frame's header (R22): `sync` is a pair of bytes in wire order, never an integer. -/
structure Header where
  sync : Byte × Byte
  messageId : Byte
  messageClass : Byte
  payloadLength : U16
deriving DecidableEq, Repr, Inhabited

/-- The footer latch and the frame's footer (R23): both as read from the wire. -/
structure Footer where
  crc : U16
  terminator : Byte
deriving DecidableEq, Repr, Inhabited

/-- The pagination metadata of a large frame (R25). -/
structure LargeMeta where
  transmissionId : Byte
  pageIndex : U16
  totalPages : U16
  pageData : Bytes
deriving DecidableEq, Repr, Inhabited

/-- The seven values of `messageType` (R34). -/
inductive MessageType where
  | command
  | log
  | highFrequency
  | nmeaStandard
  | nmeaProprietary
  | thirdParty
  | unknown
deriving DecidableEq, Repr, Inhabited

/-- The two values of `format` (R34). -/
inductive FrameFormat where
  | standard
  | large
deriving DecidableEq, Repr, Inhabited

/-- A value of the dispatcher's abstract data type (R148); `null` is the `none` of `Option Data`. The token stands for
whatever a decoder returns; nothing in the block looks inside it (R150). DESIGN CHOICE, safe: log 13. -/
structure Data where
  token : Nat
deriving DecidableEq, Repr, Inhabited

/-- The frame record with its eight fields (R33, 90_conflicts C8). -/
structure Frame where
  header : Header
  footer : Footer
  name : String
  messageType : MessageType
  format : FrameFormat
  data : Option Data
  rawBytes : Bytes
  large : Option LargeMeta
deriving DecidableEq, Repr, Inhabited

/-- The verdict on one candidate (R29 (a), R162; codes 0 to 3 of R210). -/
inductive ParsingOutcome where
  | complete (frame : Frame)
  | missingBytes
  | checksumError
  | terminatorError
deriving DecidableEq, Repr, Inhabited

/-- The kind of a diagnostic record (R222). -/
inductive DiagKind where
  | checksumError
  | terminatorError
deriving DecidableEq, Repr, Inhabited

/-- One diagnostic record: the kind and the marker index in the buffer of that pass (R222). -/
structure DiagRecord where
  kind : DiagKind
  marker : Nat
deriving DecidableEq, Repr, Inhabited

/-- The sequencer's states: six of DOC0 and `idle` (R28, R156). -/
inductive SeqState where
  | idle
  | scanning
  | headerCheck
  | lengthCheck
  | checksumCheck
  | terminatorCheck
  | decode
deriving DecidableEq, Repr, Inhabited

/-- The transient state of R20: cursor, last marker, sequencer state, latches, flags and pass-local lists. -/
structure Datapath where
  /-- The sequencer state (R28). -/
  seqState : SeqState
  /-- The scan cursor (R26). -/
  cursor : Nat
  /-- The greatest marker index of the buffer at the start of the pass (R27). -/
  lastSyncIndex : Option Nat
  /-- The marker index `s` latched in `Scanning` (R160). -/
  marker : Nat
  /-- The flag `s == lastSyncIndex` (R29 (c), R160). -/
  isLast : Bool
  /-- `len(buf) - s`, latched with `s` (R160, R163). -/
  avail : Nat
  /-- The header latch (R22); its `payloadLength` is the latched `N` of R163. -/
  header : Header
  /-- The footer latch (R23). -/
  footer : Footer
  /-- The CRC accumulator (R24). -/
  crcAcc : U16
  /-- The flag written by `IS_LARGE` (R29 (b), R135). -/
  isLarge : Bool
  /-- The large-frame metadata latch, present only for a large frame (R25, R171). -/
  large : Option LargeMeta
  /-- The outcome tag (R29 (a)), absent while no verdict exists. -/
  outcome : Option ParsingOutcome
  /-- The frames completed so far in the pass (R35). -/
  batch : List Frame
  /-- The diagnostic records of the pass (R35, R222). -/
  diag : List DiagRecord
  /-- The retained buffer the pass ends with (R155, R160, R161). -/
  retained : Bytes
deriving DecidableEq, Repr, Inhabited

/-- What the host receives for one operation (R84, R210, R222). -/
inductive Response where
  /-- A successful `INIT` (R190). -/
  | ok
  /-- A completed `ADD_DATA` with its diagnostic output (R197, R222). -/
  | okDiag (diag : List DiagRecord)
  /-- The frame list of `GET_FRAMES`, oldest first (R198). -/
  | frames (frames : List Frame)
  /-- An invalid configuration (R191, R216). -/
  | configError
  /-- `ADD_DATA` or `GET_FRAMES` while unconfigured (R201, R217). -/
  | notConfigured
  /-- A reserved operation byte (R202, R217). -/
  | badOp
deriving DecidableEq, Repr, Inhabited

/-- What a pass produces (R155, R174). -/
structure PassResult where
  batch : List Frame
  retained : Bytes
  diag : List DiagRecord
deriving DecidableEq, Repr, Inhabited

/-- The value a micro-operation or pseudo-operation returned (the `return` of the spec's pseudocode). DESIGN CHOICE,
safe: the model's own, log 10. -/
inductive MicroResult where
  /-- Nothing has been returned yet. -/
  | none
  /-- A checksum (R103). -/
  | crc (value : U16)
  /-- A header (R120). -/
  | header (value : Header)
  /-- `READ_HEADER` was given fewer than 6 bytes (R120, R215). -/
  | insufficientLength
  /-- A footer (R123). -/
  | footer (value : Footer)
  /-- A precondition does not hold: the function returns `none` (R124, R139). -/
  | noResult
  /-- The truth value of `IS_LARGE` (R135). -/
  | flag (value : Bool)
  /-- Pagination metadata (R136). -/
  | largeMeta (value : LargeMeta)
  /-- A message type (R145). -/
  | messageType (value : MessageType)
  /-- The dispatcher's two components (R148). -/
  | dispatched (name : String) (data : Option Data)
  /-- A marker index or none (R157, R158). -/
  | index (value : Option Nat)
  /-- A verdict (R162). -/
  | verdict (value : ParsingOutcome)
  /-- The three products of a pass (R174). -/
  | pass (value : PassResult)
  /-- The bytes a pseudo-operation expands to (R91, R92). -/
  | bytes (value : Bytes)
deriving DecidableEq, Repr, Inhabited

/-- The OPEN parameters of the build that are plain data (R5, R242): the sync marker, the terminator and the pairs the
dispatcher's registry holds. No rule gives their values (93 U1 to U3). -/
structure Params where
  sync0 : Byte
  sync1 : Byte
  etx : Byte
  registry : List (Byte × Byte)
deriving DecidableEq, Repr, Inhabited

end Sys2Proof.Machine
end

