-- ==== Sys2Proof/Config.lean ====
section
/-!
DEFINITION. The named constants of 00_scope R5, the OPEN parameters, and the free values (values the spec leaves open
after an operation). An opaque constant has no body: nothing can evaluate it, so a theorem about it holds for every value.
-/

namespace Sys2Proof.Config

open Sys2Proof.Machine

/-- The reflected generator polynomial `CRC_POLY` (R5, R100). -/
def crcPoly : U16 := 0x8408#16

/-- The initial value `CRC_INIT` of the accumulator (R5, R101). -/
def crcInit : U16 := 0x0000#16

/-- `HEADER_LEN` (R5). -/
def headerLen : Nat := 6

/-- `FOOTER_LEN` (R5). -/
def footerLen : Nat := 3

/-- `MIN_FRAME_LEN`, 9 by 90_conflicts C1 (R5, R78). -/
def minFrameLen : Nat := 9

/-- `LARGE_THRESHOLD` (R5, R79, R135). -/
def largeThreshold : Nat := 4096

/-- `LARGE_META_LEN` (R5). -/
def largeMetaLen : Nat := 5

/-- `MAX_PAYLOAD` (R5). -/
def maxPayload : Nat := 65535

/-- The greatest value of a 4-byte operand of a host operation, `LIMIT_BITS = 32` (R84). DESIGN CHOICE, log 2. -/
def maxOperand32 : Nat := 4294967295

/-- The sync marker, the terminator and the registry's pairs (R5, R242; 93 U1 to U3). DESIGN CHOICE, safe: log 1. -/
opaque params : Params

/-- What the registry's decoder returns for a registered pair and a payload: any total function (R148, R150; 93 U3).
DESIGN CHOICE, safe: log 13. -/
opaque decoder : Byte → Byte → Bytes → String × Option Data

/-- Free value: `memory` while unconfigured (R191, 93 U6), log 5. -/
opaque freeMemory : Nat → Bool

/-- Free value: `bufferLimit` while unconfigured (R191, 93 U6), log 5. -/
opaque freeLimit : Nat → Nat

/-- Free value: `buf` after a `ConfigError` (R191, 93 U6), log 5. -/
opaque freeBuf : Nat → Bytes

/-- Free value: `queue` after a `ConfigError` (R191, 93 U6), log 5. -/
opaque freeQueue : Nat → List Frame

/-- Free value: the transient state after a successful `INIT` and after a reset (R37, 93 U10), log 6. -/
opaque freeDatapath : Nat → Datapath

/-- Free value: the footer latch after `READ_FOOTER` outside its precondition (R124, 93 U11), log 7. -/
opaque freeFooter : Nat → Footer

/-- Free value: the metadata latch after `DECODE_LARGE` outside its precondition (R139, 93 U11), log 7. -/
opaque freeLarge : Nat → Option LargeMeta

end Sys2Proof.Config
end

