-- ==== Sys2Proof/WellFormed.lean ====
section
/-!
DEFINITION. The checks an instruction's operands meet: what the encodings of 30_encoding can carry and the ranges the
opcode table gives.
-/

namespace Sys2Proof

/-- `N <= 65535`: a payload the length field can declare (R72, R91). -/
def payloadFits (payload : Bytes) : Bool := decide (payload.length ≤ Config.maxPayload)

/-- Well-formedness of an instruction: the 4-byte operands of R84, the payload bound of R71 and R91, the range
`4096 < N <= 65535` of a large payload (R77), and `bufferLimit >= 1` for `TRIM` (R173, R30). Every other operand is
free. `INIT` with limit 0 or a memory byte of 2 to 255 is well formed: it is decoded and answered `ConfigError` (R85). -/
def Instr.wellFormed : Instr → Bool
  | .init _ limit => decide (limit ≤ Config.maxOperand32)
  | .addData chunk => decide (chunk.length ≤ Config.maxOperand32)
  | .getFrames | .reservedOp03 | .reservedOp04 _ | .reservedOp08 _ | .reservedOp10 _
  | .reservedOp20 _ | .reservedOp40 _ | .reservedOp80 _ => true
  | .frame _ _ payload _ _ => payloadFits payload
  | .large _ _ _ pageData =>
      decide (Config.largeThreshold < Config.largeMetaLen + pageData.length) &&
      decide (Config.largeMetaLen + pageData.length ≤ Config.maxPayload)
  | .classLog | .classHighFrequency | .classNmeaStandard | .classNmeaProprietary | .classThirdParty | .classCommand
  | .classUnknown05 | .classUnknown06 _ | .classUnknown08 _ | .classUnknown11 | .classUnknown12 _ | .classUnknown14 _
  | .classUnknown18 _ | .classUnknown20 _ | .classUnknown40 _ | .classUnknown80 _ => true
  | .crcReset | .crcUpdate _ | .computeCrc _ | .readHeader _ | .readFooter _ | .isLarge _ | .decodeLarge _
  | .classToType _ | .dispatch .. | .findLastSync _ | .findNextSync .. | .parseCandidate _ | .parsePass _ => true
  | .trim _ limit => decide (1 ≤ limit)
  | .reset => true
  | .pseudoFrame _ _ payload => payloadFits payload
  | .pseudoFrameBadCrc _ _ payload => payloadFits payload
  | .pseudoFrameBadEtx _ _ payload => payloadFits payload
  | .addFrame _ _ payload => payloadFits payload
  | .largePayload .. | .rep .. => true

end Sys2Proof
end

