-- ==== Sys2Proof/Decode.lean ====
section
/-!
DEFINITION. The decoders of the four formats of 30_encoding R70, total on any bytes and rejecting by name, and the encoder
written from the same tables. A word is read relative to a format: the operation byte `0x00` of HOSTOP and the class byte
`0x00` of CLASS are different objects (R84, R80).
-/

namespace Sys2Proof

open Sys2Proof.Machine

/-- Why bytes are not an instruction of a format. -/
inductive DecodeReject where
  /-- No byte is there. -/
  | empty
  /-- An `INIT` word is shorter than its 6 bytes (R84). -/
  | truncatedInit
  /-- An `ADD_DATA` word is shorter than its length field says (R84). -/
  | truncatedAddData
  /-- The bytes do not begin with the sync marker (R71). -/
  | noSync
  /-- Fewer than `9 + N` bytes (R78). -/
  | truncatedFrame
  /-- At most 4096 bytes: not a large payload (R77, R79). -/
  | notLarge
  /-- More than 65535 bytes: no length field declares such a payload (R72, R77). -/
  | payloadTooLong
deriving DecidableEq, Repr

/-! ### HOSTOP -/

/-- A reserved operation byte, by the ranges of the opcode table (R84, R93). -/
def decodeReserved (b : Byte) : Instr :=
  if b.toNat < 0x04 then .reservedOp03
  else if b.toNat < 0x08 then .reservedOp04 (b.setWidth 2)
  else if b.toNat < 0x10 then .reservedOp08 (b.setWidth 3)
  else if b.toNat < 0x20 then .reservedOp10 (b.setWidth 4)
  else if b.toNat < 0x40 then .reservedOp20 (b.setWidth 5)
  else if b.toNat < 0x80 then .reservedOp40 (b.setWidth 6)
  else .reservedOp80 (b.setWidth 7)

/-- One host operation word at the head of `bs`, and the bytes after it (R84). -/
def decode : Bytes → Except DecodeReject (Instr × Bytes)
  | [] => .error .empty
  | op :: rest =>
      if op = 0x00#8 then
        if rest.length < 5 then .error .truncatedInit
        else .ok (.init (byteAt rest 0) (le32 rest 1), rest.drop 5)
      else if op = 0x01#8 then
        if rest.length < 4 + le32 rest 0 then .error .truncatedAddData
        else .ok (.addData (slice rest 4 (4 + le32 rest 0)), rest.drop (4 + le32 rest 0))
      else if op = 0x02#8 then .ok (.getFrames, rest)
      else .ok (decodeReserved op, rest)

/-! ### FRAME, LARGE, CLASS -/

/-- One frame at the head of `bs`, and the bytes after it (R71 to R78). The CRC and the terminator are taken as they
stand: the verdict on them is the instruction's meaning (R82, R162). -/
def decodeFrame (P : Params) (bs : Bytes) : Except DecodeReject (Instr × Bytes) :=
  if bs.length < 2 then .error .truncatedFrame
  else if byteAt bs 0 ≠ P.sync0 ∨ byteAt bs 1 ≠ P.sync1 then .error .noSync
  else if bs.length < Config.minFrameLen then .error .truncatedFrame
  else if bs.length < Config.minFrameLen + (le16 bs 4).toNat then .error .truncatedFrame
  else
    .ok (.frame (byteAt bs 2) (byteAt bs 3) (slice bs 6 (6 + (le16 bs 4).toNat)) (le16 bs (6 + (le16 bs 4).toNat))
      (byteAt bs (8 + (le16 bs 4).toNat)), bs.drop (9 + (le16 bs 4).toNat))

/-- The payload of a large frame (R77); its length is the frame's `N` (R79). -/
def decodeLarge (payload : Bytes) : Except DecodeReject Instr :=
  if payload.length ≤ Config.largeThreshold then .error .notLarge
  else if Config.maxPayload < payload.length then .error .payloadTooLong
  else .ok (.large (byteAt payload 0) (le16 payload 1) (le16 payload 3) (payload.drop 5))

/-- The class byte `B[3]` (R80): six named values and ten ranges that cover the rest (R93). -/
def decodeClass (b : Byte) : Instr :=
  if b = 0x00#8 then .classLog
  else if b = 0x01#8 then .classHighFrequency
  else if b = 0x02#8 then .classNmeaStandard
  else if b = 0x03#8 then .classNmeaProprietary
  else if b = 0x04#8 then .classThirdParty
  else if b = 0x05#8 then .classUnknown05
  else if b.toNat < 0x08 then .classUnknown06 (b.setWidth 1)
  else if b.toNat < 0x10 then .classUnknown08 (b.setWidth 3)
  else if b = 0x10#8 then .classCommand
  else if b = 0x11#8 then .classUnknown11
  else if b.toNat < 0x14 then .classUnknown12 (b.setWidth 1)
  else if b.toNat < 0x18 then .classUnknown14 (b.setWidth 2)
  else if b.toNat < 0x20 then .classUnknown18 (b.setWidth 3)
  else if b.toNat < 0x40 then .classUnknown20 (b.setWidth 5)
  else if b.toNat < 0x80 then .classUnknown40 (b.setWidth 6)
  else .classUnknown80 (b.setWidth 7)

/-! ### The encoder -/

/-- The bytes of a frame whose CRC field and terminator are given (R71, R72). -/
def frameWire (P : Params) (messageId messageClass : Byte) (payload : Bytes) (crc : U16) (terminator : Byte) : Bytes :=
  [P.sync0, P.sync1, messageId, messageClass] ++ u16Bytes (BitVec.ofNat 16 payload.length) ++ payload ++
    u16Bytes crc ++ [terminator]

/-- The bytes of a large payload (R77, R92). -/
def largeWire (transmissionId : Byte) (pageIndex totalPages : U16) (pageData : Bytes) : Bytes :=
  [transmissionId] ++ u16Bytes pageIndex ++ u16Bytes totalPages ++ pageData

/-- The words of an instruction, for the formats that have them (R71, R77, R80, R84); `none` for micro-operations and
pseudo-operations, which have no bit pattern (R93). -/
def encode (P : Params) : Instr → Option Bytes
  | .init memory limit => some ([0x00#8, memory] ++ nat32Bytes limit)
  | .addData chunk => some ([0x01#8] ++ nat32Bytes chunk.length ++ chunk)
  | .getFrames => some [0x02#8]
  | .reservedOp03 => some [0x03#8]
  | .reservedOp04 low => some [1#6 ++ low]
  | .reservedOp08 low => some [1#5 ++ low]
  | .reservedOp10 low => some [1#4 ++ low]
  | .reservedOp20 low => some [1#3 ++ low]
  | .reservedOp40 low => some [1#2 ++ low]
  | .reservedOp80 low => some [1#1 ++ low]
  | .frame messageId messageClass payload crc terminator =>
      some (frameWire P messageId messageClass payload crc terminator)
  | .large transmissionId pageIndex totalPages pageData => some (largeWire transmissionId pageIndex totalPages pageData)
  | .classLog => some [0x00#8]
  | .classHighFrequency => some [0x01#8]
  | .classNmeaStandard => some [0x02#8]
  | .classNmeaProprietary => some [0x03#8]
  | .classThirdParty => some [0x04#8]
  | .classCommand => some [0x10#8]
  | .classUnknown05 => some [0x05#8]
  | .classUnknown06 low => some [3#7 ++ low]
  | .classUnknown08 low => some [1#5 ++ low]
  | .classUnknown11 => some [0x11#8]
  | .classUnknown12 low => some [9#7 ++ low]
  | .classUnknown14 low => some [5#6 ++ low]
  | .classUnknown18 low => some [3#5 ++ low]
  | .classUnknown20 low => some [1#3 ++ low]
  | .classUnknown40 low => some [1#2 ++ low]
  | .classUnknown80 low => some [1#1 ++ low]
  | .crcReset | .crcUpdate _ | .computeCrc _ | .readHeader _ | .readFooter _ | .isLarge _ | .decodeLarge _
  | .classToType _ | .dispatch .. | .findLastSync _ | .findNextSync .. | .parseCandidate _ | .parsePass _ | .trim ..
  | .reset | .pseudoFrame .. | .pseudoFrameBadCrc .. | .pseudoFrameBadEtx .. | .addFrame .. | .largePayload ..
  | .rep .. => none

/-- The columns `mask` and `match` of the opcode table, for the rows that have them: the operation byte of a host
operation (R84) and the class byte (R80). -/
def Instr.tableRow : Instr → Option (Byte × Byte)
  | .init .. => some (0xFF#8, 0x00#8)
  | .addData _ => some (0xFF#8, 0x01#8)
  | .getFrames => some (0xFF#8, 0x02#8)
  | .reservedOp03 => some (0xFF#8, 0x03#8)
  | .reservedOp04 _ => some (0xFC#8, 0x04#8)
  | .reservedOp08 _ => some (0xF8#8, 0x08#8)
  | .reservedOp10 _ => some (0xF0#8, 0x10#8)
  | .reservedOp20 _ => some (0xE0#8, 0x20#8)
  | .reservedOp40 _ => some (0xC0#8, 0x40#8)
  | .reservedOp80 _ => some (0x80#8, 0x80#8)
  | .classLog => some (0xFF#8, 0x00#8)
  | .classHighFrequency => some (0xFF#8, 0x01#8)
  | .classNmeaStandard => some (0xFF#8, 0x02#8)
  | .classNmeaProprietary => some (0xFF#8, 0x03#8)
  | .classThirdParty => some (0xFF#8, 0x04#8)
  | .classCommand => some (0xFF#8, 0x10#8)
  | .classUnknown05 => some (0xFF#8, 0x05#8)
  | .classUnknown06 _ => some (0xFE#8, 0x06#8)
  | .classUnknown08 _ => some (0xF8#8, 0x08#8)
  | .classUnknown11 => some (0xFF#8, 0x11#8)
  | .classUnknown12 _ => some (0xFE#8, 0x12#8)
  | .classUnknown14 _ => some (0xFC#8, 0x14#8)
  | .classUnknown18 _ => some (0xF8#8, 0x18#8)
  | .classUnknown20 _ => some (0xE0#8, 0x20#8)
  | .classUnknown40 _ => some (0xC0#8, 0x40#8)
  | .classUnknown80 _ => some (0x80#8, 0x80#8)
  | .frame .. | .large .. | .crcReset | .crcUpdate _ | .computeCrc _ | .readHeader _ | .readFooter _ | .isLarge _
  | .decodeLarge _ | .classToType _ | .dispatch .. | .findLastSync _ | .findNextSync .. | .parseCandidate _
  | .parsePass _ | .trim .. | .reset | .pseudoFrame .. | .pseudoFrameBadCrc .. | .pseudoFrameBadEtx .. | .addFrame ..
  | .largePayload .. | .rep .. => none

/-! ### A table word as host operation bytes -/

/-- The `k` lowest bytes of `w`, bits 7..0 first: one-byte words in storage order. -/
def wordBytes : Nat → Nat → Bytes
  | 0, _ => []
  | k + 1, w => BitVec.ofNat 8 w :: wordBytes k (w / 256)

/-- The length in bytes of the host operation word that begins `bs` (R84). -/
def hostOpLength (bs : Bytes) : Nat :=
  if byteAt bs 0 = 0x00#8 then 6 else if byteAt bs 0 = 0x01#8 then 5 + le32 bs 1 else 1

/-- The bytes of the host operation whose lowest `nbits` bits are `w` and whose other bits are 0: exactly one operation
word (R84). -/
def tableWordBytes (nbits w : Nat) : Bytes :=
  let bs := wordBytes ((nbits + 7) / 8) w ++ List.replicate 6 0
  (bs ++ List.replicate (hostOpLength bs - bs.length) 0).take (hostOpLength bs)

/-- The instruction the machine's decoder reads from a table word. Words are what the machine is driven with, so they are
host operation words (R84); a class byte is not fetched (log 12). -/
def decodeTableWord (nbits w : Nat) : Option Instr :=
  match decode (tableWordBytes nbits w) with
  | .ok (i, _) => some i
  | .error _ => none

end Sys2Proof
end

