-- ==== Sys2Proof/Machine/State.lean ====
section
/-!
DEFINITION. The machine's state (10_state R20), its reset value (70_reset_and_hazards R240), and the reasons a meaning may
stop.
-/

namespace Sys2Proof.Machine

/-- The state of one instance: the architectural five-tuple and the transient state of R20, the OPEN parameters as data,
and the model's own host interface. -/
structure State where
  /-- An `INIT` has succeeded (R30). -/
  configured : Bool
  /-- The memory flag: append and accumulate, or replace (R30). -/
  memory : Bool
  /-- The greatest length of the retained buffer (R30). -/
  bufferLimit : Nat
  /-- RawBuffer (R31). -/
  buf : Bytes
  /-- The frames completed and not yet drained, oldest first (R32). -/
  queue : List Frame
  /-- The transient state (R20, R36). -/
  dp : Datapath
  /-- The parameters of the build (R5, R242); no operation writes them. -/
  params : Params
  /-- The model's own (log 8): the host operation words issued and not yet executed. -/
  input : Bytes
  /-- The model's own (log 11): a reset event is pending (R240). -/
  resetReq : Bool
  /-- The model's own (log 9): the responses the host has received, oldest first (R14). -/
  responses : List Response
  /-- The model's own (log 10): what the last micro-operation or pseudo-operation returned. -/
  result : MicroResult
  /-- The model's own (log 5): the counter that the free values are applied to. -/
  freeCount : Nat
deriving DecidableEq, Repr, Inhabited

/-- The block has no fault: every operation of it terminates and responds, and no outcome stops it (R175, R214; 93 part 1).
No meaning raises one. Safe. -/
inductive Fault where
deriving DecidableEq, Repr

/-- Why a meaning gives no next state. -/
inductive Refusal where
  /-- Raised by `exec` for an instruction without a meaning. Safe: nothing can be proved about it. -/
  | notModelled (mnemonic : String)
  /-- Raised by `FRAME`, `FRAME()`, `FRAME_BADCRC()`, `FRAME_BADETX()` and `ADD_FRAME` for a payload of more than 65535
  bytes: no such frame exists, since the length field has 16 bits (R72, R91). Safe: the operand is ill formed. -/
  | payloadTooLong
deriving DecidableEq, Repr

/-- The transient state at reset: `Idle` by R240; the other values are the model's, DESIGN CHOICE, unsafe, log 4. -/
def Datapath.reset : Datapath where
  seqState := .idle
  cursor := 0
  lastSyncIndex := none
  marker := 0
  isLast := false
  avail := 0
  header := ⟨(0, 0), 0, 0, 0⟩
  footer := ⟨0, 0⟩
  crcAcc := 0
  isLarge := false
  large := none
  outcome := none
  batch := []
  diag := []
  retained := []

/-- The state right after reset (R240, R37). `memory`, `bufferLimit` and the transient state besides `seqState` have no
reset value in the spec: DESIGN CHOICE, unsafe, log 4. The parameters are the uninterpreted ones (log 1). -/
def State.reset : State where
  configured := false
  memory := false
  bufferLimit := 0
  buf := []
  queue := []
  dp := Datapath.reset
  params := Config.params
  input := []
  resetReq := false
  responses := []
  result := .none
  freeCount := 0

end Sys2Proof.Machine
end

