-- ==== Sys2Proof/Machine/Ops.lean ====
section
/-!
DEFINITION. The named operations over state and memory: responses, the writes of RawBuffer (20_memory R58 to R60), the
outcomes that change state (60_exceptions R191, R216, R217, R221) and the address view of the buffer (R50).
-/

namespace Sys2Proof.Machine

/-! ### Responses and returned values -/

/-- The host receives `r` (R14, R84). -/
def respond (r : Response) (s : State) : State := { s with responses := s.responses ++ [r] }

/-- A micro-operation or pseudo-operation returns `r` (log 10). -/
def returns (r : MicroResult) (s : State) : State := { s with result := r }

/-- `NotConfigured`: the response, and no other change (R201, R217). -/
def refuseNotConfigured (s : State) : State := respond .notConfigured s

/-- `BadOp`: the response, and no other change (R202, R217). -/
def refuseBadOp (s : State) : State := respond .badOp s

/-- `ConfigError`, the fail-fast outcome of `INIT` (R191, R216): the instance is unconfigured, and `memory`,
`bufferLimit`, `buf` and `queue` become unspecified: free values (93 U6, log 5). -/
def raiseConfigError (s : State) : State :=
  respond .configError
    { s with
      configured := false
      memory := Config.freeMemory s.freeCount
      bufferLimit := Config.freeLimit s.freeCount
      buf := Config.freeBuf s.freeCount
      queue := Config.freeQueue s.freeCount
      freeCount := s.freeCount + 1 }

/-- The transient state after `INIT` and after a reset: `Idle`, everything else unspecified (R37; 93 U10, log 6). -/
def unspecifiedDatapath (k : Nat) : Datapath := { Config.freeDatapath k with seqState := .idle }

/-! ### The writes of RawBuffer -/

/-- The write at the start of `ADD_DATA`: append with memory on, replace with memory off (R58, R59, R192). -/
def receive (memory : Bool) (buf chunk : Bytes) : Bytes := if memory then buf ++ chunk else chunk

/-- `TRIM`: keep the last `bufferLimit` bytes (R60, R173). -/
def trimTail (retained : Bytes) (bufferLimit : Nat) : Bytes :=
  if bufferLimit < retained.length then retained.drop (retained.length - bufferLimit) else retained

/-- The queue update at the end of `ADD_DATA` (R196). -/
def emit (memory : Bool) (queue batch : List Frame) : List Frame := if memory then queue ++ batch else batch

/-! ### Verdicts of the sequencer -/

/-- The entry of an integrity failure (R170, R221): the tag, one diagnostic record, the cursor one byte past the marker,
back to `Scanning`. Nothing is saved, because nothing is resumed (R223). -/
def rejectCandidate (kind : DiagKind) (d : Datapath) : Datapath :=
  { d with
    outcome := some (match kind with
      | .checksumError => .checksumError
      | .terminatorError => .terminatorError)
    diag := d.diag ++ [⟨kind, d.marker⟩]
    cursor := d.marker + 1
    seqState := .scanning }

/-- The incomplete-candidate policy (R161, R211): retain from the last marker and stop, or skip one byte. -/
def incompleteCandidate (buf : Bytes) (d : Datapath) : Datapath :=
  if d.isLast then
    { d with outcome := some .missingBytes, retained := buf.drop d.marker, seqState := .idle }
  else
    { d with outcome := some .missingBytes, cursor := d.marker + 1, seqState := .scanning }

/-! ### The buffer as memory -/

/-- The cells of a byte sequence placed from address `a` on. -/
def Memory.cellsFrom : Nat → Bytes → List Host.Cell
  | _, [] => []
  | a, b :: bs => (a, b) :: Memory.cellsFrom (a + 1) bs

/-- RawBuffer as address and byte pairs: address `i` holds `buf[i]`, and no other address exists (R50). -/
def Memory.cells (buf : Bytes) : List Host.Cell := Memory.cellsFrom 0 buf

/-- A read of one address: `none` where the address does not exist (R50, R57). -/
def Memory.read (m : List Host.Cell) (a : Nat) : Option Byte := (m.find? fun c => c.1 == a).map Prod.snd

/-- The canonical form: the addresses rise by one from 0 (R50), so equal memories are equal lists. -/
def Memory.wf (m : List Host.Cell) : Bool := decide (m.map Prod.fst = List.range m.length)

/-- The memory of a state. -/
def State.mem (s : State) : List Host.Cell := Memory.cells s.buf

end Sys2Proof.Machine
end

