-- ==== Sys2Proof/Machine/CrcEngine.lean ====
section
/-!
DEFINITION. The CRC Engine (40_crc_engine): CRC_RESET, CRC_UPDATE, COMPUTE_CRC.
-/

namespace Sys2Proof.Machine

/-- One of the eight iterations of `CRC_UPDATE`: logical shift right by 1, then exclusive-or with the polynomial when bit 0
was 1 (R102). -/
def crcShift (c : U16) : U16 := if c.getLsbD 0 then (c >>> 1) ^^^ Config.crcPoly else c >>> 1

/-- `k` iterations. -/
def crcShifts : Nat → U16 → U16
  | 0, c => c
  | k + 1, c => crcShifts k (crcShift c)

/-- The value `CRC_UPDATE(b)` leaves in an accumulator (R102; the procedure is the spec's from general knowledge, log 3). -/
def crcUpdate (acc : U16) (b : Byte) : U16 := crcShifts 8 (acc ^^^ b.setWidth 16)

/-- `COMPUTE_CRC` as a function: the updates in increasing index order from the initial value; no final inversion, no byte
swap (R103). -/
def computeCrc (bytes : Bytes) : U16 := bytes.foldl crcUpdate Config.crcInit

/-- `CRC_RESET` (R101). -/
def execCrcReset (s : State) : Host.Outcome State Fault Refusal :=
  .next { s with dp := { s.dp with crcAcc := Config.crcInit } }

/-- `CRC_UPDATE(b)` (R102). -/
def execCrcUpdate (b : Byte) (s : State) : Host.Outcome State Fault Refusal :=
  .next { s with dp := { s.dp with crcAcc := crcUpdate s.dp.crcAcc b } }

/-- `COMPUTE_CRC(bytes)`: `CRC_RESET`, the updates, and the accumulator as result (R103). -/
def execComputeCrc (bytes : Bytes) (s : State) : Host.Outcome State Fault Refusal :=
  .next (returns (.crc (computeCrc bytes)) { s with dp := { s.dp with crcAcc := computeCrc bytes } })

end Sys2Proof.Machine
end

