-- ==== Sys2Proof/Machine/Dispatcher.lean ====
section
/-!
DEFINITION. The message-type map and the boundary of the Payload Dispatcher (43_dispatch_boundary): CLASS_TO_TYPE, DISPATCH.
-/

namespace Sys2Proof.Machine

/-- `CLASS_TO_TYPE`: total on all 256 values, matching all eight bits (R80, R145). -/
def typeOfClass (messageClass : Byte) : MessageType :=
  if messageClass = 0x10#8 then .command
  else if messageClass = 0x00#8 then .log
  else if messageClass = 0x01#8 then .highFrequency
  else if messageClass = 0x02#8 then .nmeaStandard
  else if messageClass = 0x03#8 then .nmeaProprietary
  else if messageClass = 0x04#8 then .thirdParty
  else .unknown

/-- `dispatch(class, id, payload)`: the registry's decoder for a pair it holds, else the unknown sentinel (R148, R149).
It reads no state but the parameters and has no effect (R148). -/
def dispatchPayload (P : Params) (messageClass messageId : Byte) (payload : Bytes) : String × Option Data :=
  if (messageClass, messageId) ∈ P.registry then Config.decoder messageClass messageId payload else ("unknown", none)

/-- `CLASS_TO_TYPE(messageClass)` (R145). -/
def execClassToType (messageClass : Byte) (s : State) : Host.Outcome State Fault Refusal :=
  .next (returns (.messageType (typeOfClass messageClass)) s)

/-- `DISPATCH(class, id, payload)` (R148). -/
def execDispatch (messageClass messageId : Byte) (payload : Bytes) (s : State) : Host.Outcome State Fault Refusal :=
  .next (returns (.dispatched (dispatchPayload s.params messageClass messageId payload).1
    (dispatchPayload s.params messageClass messageId payload).2) s)

end Sys2Proof.Machine
end

