-- ==== Sys2Proof/Machine/HeaderFooter.lean ====
section
/-!
DEFINITION. The Header/Footer Codec (41_header_footer_codec): READ_HEADER, READ_FOOTER. Shape only: nothing is judged.
-/

namespace Sys2Proof.Machine

/-- The fixed-offset taps of the header (R120, R125). -/
def headerAt (bytes : Bytes) : Header :=
  ⟨(byteAt bytes 0, byteAt bytes 1), byteAt bytes 2, byteAt bytes 3, le16 bytes 4⟩

/-- `N`, the declared payload length, as a natural number (R73, R11: `9 + N` is never truncated). -/
def declaredLength (bytes : Bytes) : Nat := (le16 bytes 4).toNat

/-- `READ_HEADER`: `none` is `InsufficientLength` (R120, R122). -/
def readHeader (bytes : Bytes) : Option Header :=
  if bytes.length < Config.headerLen then none else some (headerAt bytes)

/-- The taps of the footer, `N` bytes after the header (R123, R125). -/
def footerAt (bytes : Bytes) : Footer :=
  ⟨le16 bytes (6 + declaredLength bytes), byteAt bytes (8 + declaredLength bytes)⟩

/-- The precondition of `READ_FOOTER`: `len(bytes) >= 9 + N` (R124), and the length field itself is there. -/
def footerReadable (bytes : Bytes) : Bool := decide (9 + declaredLength bytes ≤ bytes.length)

/-- `READ_FOOTER`: `none` outside the precondition (R123, R124). -/
def readFooter (bytes : Bytes) : Option Footer := if footerReadable bytes then some (footerAt bytes) else none

/-- `READ_HEADER(bytes)` (R120): writes the header latch, or returns `InsufficientLength` as a value (R215). -/
def execReadHeader (bytes : Bytes) (s : State) : Host.Outcome State Fault Refusal :=
  match readHeader bytes with
  | some h => .next (returns (.header h) { s with dp := { s.dp with header := h } })
  | none => .next (returns .insufficientLength s)

/-- `READ_FOOTER(bytes)` (R123): writes the footer latch. Outside the precondition it returns `none` (R124), and the latch
is a free value (log 7). -/
def execReadFooter (bytes : Bytes) (s : State) : Host.Outcome State Fault Refusal :=
  match readFooter bytes with
  | some f => .next (returns (.footer f) { s with dp := { s.dp with footer := f } })
  | none =>
      .next (returns .noResult
        { s with dp := { s.dp with footer := Config.freeFooter s.freeCount }, freeCount := s.freeCount + 1 })

end Sys2Proof.Machine
end

