-- ==== Sys2Proof/Machine/Flags.lean ====
section
/-!
DEFINITION. The one-shot flags of 10_state R29: `isLarge`, `isLast` and the outcome tag; and the codes of the outcomes
(60_exceptions R210), which no rule reads.
-/

namespace Sys2Proof.Machine

/-- `IS_LARGE(N)`: `payloadLength > 4096`, unsigned (R79, R135). -/
def isLargeFlag (payloadLength : U16) : Bool := decide (Config.largeThreshold < payloadLength.toNat)

/-- `isLast`: `s == lastSyncIndex` (R29 (c), R160). -/
def isLastFlag (marker : Nat) (lastSyncIndex : Option Nat) : Bool := decide (lastSyncIndex = some marker)

/-- The code of an outcome (R210, codes 0 to 3). -/
def outcomeCode : ParsingOutcome → Nat
  | .complete _ => 0
  | .missingBytes => 1
  | .checksumError => 2
  | .terminatorError => 3

/-- The code of a returned value that is an outcome (R210, codes 0 to 4). -/
def resultCode : MicroResult → Option Nat
  | .verdict v => some (outcomeCode v)
  | .insufficientLength => some 4
  | .none | .crc _ | .header _ | .footer _ | .noResult | .flag _ | .largeMeta _ | .messageType _ | .dispatched .. | .index _
  | .pass _ | .bytes _ => none

/-- The code of a response that is an outcome (R210, codes 5 to 7). -/
def responseCode : Response → Option Nat
  | .configError => some 5
  | .notConfigured => some 6
  | .badOp => some 7
  | .ok | .okDiag _ | .frames _ => none

end Sys2Proof.Machine
end

