-- ==== Sys2Proof/Machine/LargeCodec.lean ====
section
/-!
DEFINITION. The Large-Frame Codec (42_large_frame_codec): IS_LARGE, DECODE_LARGE. No page is merged or checked (R140, R141).
-/

namespace Sys2Proof.Machine

/-- The metadata at the fixed payload offsets and the page data after them (R136 to R138). -/
def largeMetaAt (payload : Bytes) : LargeMeta :=
  ⟨byteAt payload 0, le16 payload 1, le16 payload 3, payload.drop 5⟩

/-- `DECODE_LARGE`: `none` with fewer than 5 bytes (R136, R139). -/
def decodeLargeMeta (payload : Bytes) : Option LargeMeta :=
  if payload.length < Config.largeMetaLen then none else some (largeMetaAt payload)

/-- `IS_LARGE(payloadLength)` (R135). -/
def execIsLarge (payloadLength : U16) (s : State) : Host.Outcome State Fault Refusal :=
  .next (returns (.flag (isLargeFlag payloadLength)) { s with dp := { s.dp with isLarge := isLargeFlag payloadLength } })

/-- `DECODE_LARGE(payload)` (R136): writes the metadata latch. Outside the precondition it returns `none` (R139), and the
latch is a free value (log 7). -/
def execDecodeLarge (payload : Bytes) (s : State) : Host.Outcome State Fault Refusal :=
  match decodeLargeMeta payload with
  | some m => .next (returns (.largeMeta m) { s with dp := { s.dp with large := some m } })
  | none =>
      .next (returns .noResult
        { s with dp := { s.dp with large := Config.freeLarge s.freeCount }, freeCount := s.freeCount + 1 })

end Sys2Proof.Machine
end

