-- ==== Sys2Proof/Machine/Assembler.lean ====
section
/-!
DEFINITION. The Frame Assembler (44_frame_assembler): the marker search, the verdict on a candidate, the sequencer with its
transitions, the pass as a pure function, and TRIM.
-/

namespace Sys2Proof.Machine

/-! ### The marker search -/

/-- The two bytes of the sync marker, compared in wire order (R52, R158). -/
def isMarker (P : Params) (a b : Byte) : Bool := a == P.sync0 && b == P.sync1

/-- `i` is a marker index of `buf` (R15). -/
abbrev MarkerIndex (P : Params) (buf : Bytes) (i : Nat) : Prop :=
  i + 1 < buf.length ∧ byteAt buf i = P.sync0 ∧ byteAt buf (i + 1) = P.sync1

/-- The first marker of a sequence whose first byte stands at index `i`. -/
def firstMarker (P : Params) : Bytes → Nat → Option Nat
  | a :: b :: rest, i => if isMarker P a b then some i else firstMarker P (b :: rest) (i + 1)
  | _, _ => none

/-- The last marker of a sequence whose first byte stands at index `i`. -/
def lastMarker (P : Params) : Bytes → Nat → Option Nat
  | a :: b :: rest, i =>
      match lastMarker P (b :: rest) (i + 1) with
      | some j => some j
      | none => if isMarker P a b then some i else none
  | _, _ => none

/-- `FIND_LAST_SYNC(buf)` (R157). -/
def findLastSync (P : Params) (buf : Bytes) : Option Nat := lastMarker P buf 0

/-- `FIND_NEXT_SYNC(buf, cursor)` (R158). -/
def findNextSync (P : Params) (buf : Bytes) (cursor : Nat) : Option Nat := firstMarker P (buf.drop cursor) cursor

/-! ### Frames and verdicts -/

/-- The frame record, from the header, the footer, the payload and the consumed span (R33, R171). The dispatcher gets the
whole payload, for both formats (R151). -/
def buildFrame (P : Params) (h : Header) (f : Footer) (payload rawBytes : Bytes) : Frame where
  header := h
  footer := f
  name := (dispatchPayload P h.messageClass h.messageId payload).1
  messageType := typeOfClass h.messageClass
  format := if isLargeFlag h.payloadLength then .large else .standard
  data := (dispatchPayload P h.messageClass h.messageId payload).2
  rawBytes := rawBytes
  large := if isLargeFlag h.payloadLength then some (largeMetaAt payload) else none

/-- The verdict with the minimum length as a parameter (R162, R179). The order of the tests is fixed (R220). -/
def parseCandidateMin (minLen : Nat) (P : Params) (c : Bytes) : ParsingOutcome :=
  if c.length < minLen then .missingBytes
  else if c.length < 9 + declaredLength c then .missingBytes
  else if computeCrc (slice c 2 (6 + declaredLength c)) ≠ (footerAt c).crc then .checksumError
  else if (footerAt c).terminator ≠ P.etx then .terminatorError
  else
    .complete (buildFrame P (headerAt c) (footerAt c) (slice c 6 (6 + declaredLength c))
      (slice c 0 (9 + declaredLength c)))

/-- `PARSE_CANDIDATE(c)` (R162). -/
def parseCandidate (P : Params) (c : Bytes) : ParsingOutcome := parseCandidateMin Config.minFrameLen P c

/-- The latches, the flag and the tag that a verdict on `c` leaves: each is written when its micro-operation is reached
(R166 to R171); the cursor, the lists and the sequencer state are the sequencer's and stay (log 15). -/
def latchVerdict (P : Params) (c : Bytes) (d : Datapath) : Datapath :=
  { d with
    header := if 9 ≤ c.length then headerAt c else d.header
    footer := if footerReadable c then footerAt c else d.footer
    crcAcc := if footerReadable c then computeCrc (slice c 2 (6 + declaredLength c)) else d.crcAcc
    isLarge := match parseCandidate P c with
      | .complete f => decide (f.format = .large)
      | _ => d.isLarge
    large := match parseCandidate P c with
      | .complete f => f.large
      | _ => d.large
    outcome := some (parseCandidate P c) }

/-! ### The sequencer -/

/-- Start of a pass, `Idle` to `Scanning` (R159). -/
def seqStart (P : Params) (buf : Bytes) (d : Datapath) : Datapath :=
  { d with
    lastSyncIndex := findLastSync P buf
    cursor := 0
    batch := []
    diag := []
    seqState := .scanning }

/-- `Scanning` (R160). -/
def seqScanning (P : Params) (buf : Bytes) (d : Datapath) : Datapath :=
  match findNextSync P buf d.cursor with
  | none => { d with retained := [], seqState := .idle }
  | some m =>
      { d with
        marker := m
        isLast := isLastFlag m d.lastSyncIndex
        avail := buf.length - m
        seqState := .headerCheck }

/-- `HeaderCheck` (R166). -/
def seqHeaderCheck (buf : Bytes) (d : Datapath) : Datapath :=
  if d.avail < Config.minFrameLen then incompleteCandidate buf d
  else { d with header := headerAt (buf.drop d.marker), seqState := .lengthCheck }

/-- `LengthCheck` (R167): `need` is a natural number, never truncated (R11). -/
def seqLengthCheck (buf : Bytes) (d : Datapath) : Datapath :=
  if d.avail < Config.headerLen + d.header.payloadLength.toNat + Config.footerLen then incompleteCandidate buf d
  else { d with footer := footerAt (buf.drop d.marker), seqState := .checksumCheck }

/-- `ChecksumCheck` (R168, R75). -/
def seqChecksumCheck (buf : Bytes) (d : Datapath) : Datapath :=
  let expected := computeCrc (slice buf (d.marker + 2) (d.marker + 6 + d.header.payloadLength.toNat))
  if expected ≠ d.footer.crc then rejectCandidate .checksumError { d with crcAcc := expected }
  else { d with crcAcc := expected, seqState := .terminatorCheck }

/-- `TerminatorCheck` (R169). -/
def seqTerminatorCheck (P : Params) (d : Datapath) : Datapath :=
  if d.footer.terminator ≠ P.etx then rejectCandidate .terminatorError d else { d with seqState := .decode }

/-- `Decode` (R171). -/
def seqDecode (P : Params) (buf : Bytes) (d : Datapath) : Datapath :=
  let n := d.header.payloadLength.toNat
  let frame := buildFrame P d.header d.footer (slice buf (d.marker + 6) (d.marker + 6 + n))
    (slice buf d.marker (d.marker + 9 + n))
  { d with
    isLarge := isLargeFlag d.header.payloadLength
    large := frame.large
    outcome := some (.complete frame)
    batch := d.batch ++ [frame]
    cursor := d.marker + 9 + n
    seqState := .scanning }

/-- One transition of the sequencer (R163); `Idle` stays until a pass is started. -/
def seqStep (P : Params) (buf : Bytes) (d : Datapath) : Datapath :=
  match d.seqState with
  | .idle => d
  | .scanning => seqScanning P buf d
  | .headerCheck => seqHeaderCheck buf d
  | .lengthCheck => seqLengthCheck buf d
  | .checksumCheck => seqChecksumCheck buf d
  | .terminatorCheck => seqTerminatorCheck P d
  | .decode => seqDecode P buf d

/-- At most `fuel` transitions, stopping in `Idle`. -/
def seqRun (P : Params) (buf : Bytes) : Nat → Datapath → Datapath
  | 0, d => d
  | fuel + 1, d => if d.seqState = .idle then d else seqRun P buf fuel (seqStep P buf d)

/-- More transitions than a pass over `buf` can make: at most `len(buf)` visits to `Scanning` of at most six transitions
each, and the last visit (R175, log 20). -/
def passFuel (buf : Bytes) : Nat := 6 * (buf.length + 1)

/-- The pass of the sequencer over `buf`, from `Idle` to `Idle` (R159 to R171). -/
def runPass (P : Params) (buf : Bytes) (d : Datapath) : Datapath := seqRun P buf (passFuel buf) (seqStart P buf d)

/-! ### The pass as a pure function -/

/-- The loop of `PARSE_PASS` (R174), with at most `fuel` visits to the search. -/
def passLoop (P : Params) (buf : Bytes) (last : Option Nat) :
    Nat → Nat → List Frame → List DiagRecord → PassResult
  | 0, _, batch, diag => ⟨batch, [], diag⟩
  | fuel + 1, cursor, batch, diag =>
      match findNextSync P buf cursor with
      | none => ⟨batch, [], diag⟩
      | some m =>
          match parseCandidate P (buf.drop m) with
          | .missingBytes =>
              if last = some m then ⟨batch, buf.drop m, diag⟩ else passLoop P buf last fuel (m + 1) batch diag
          | .checksumError => passLoop P buf last fuel (m + 1) batch (diag ++ [⟨.checksumError, m⟩])
          | .terminatorError => passLoop P buf last fuel (m + 1) batch (diag ++ [⟨.terminatorError, m⟩])
          | .complete f => passLoop P buf last fuel (m + f.rawBytes.length) (batch ++ [f]) diag

/-- `PARSE_PASS(buf)` (R174). The search is visited at most `len(buf) + 1` times (R175). -/
def parsePass (P : Params) (buf : Bytes) : PassResult :=
  passLoop P buf (findLastSync P buf) (buf.length + 1) 0 [] []

/-! ### The micro-operations as instructions -/

/-- `FIND_LAST_SYNC(buf)`: the result is latched in `lastSyncIndex` (R157). -/
def execFindLastSync (buf : Bytes) (s : State) : Host.Outcome State Fault Refusal :=
  .next (returns (.index (findLastSync s.params buf))
    { s with dp := { s.dp with lastSyncIndex := findLastSync s.params buf } })

/-- `FIND_NEXT_SYNC(buf, cursor)` (R158). -/
def execFindNextSync (buf : Bytes) (cursor : Nat) (s : State) : Host.Outcome State Fault Refusal :=
  .next (returns (.index (findNextSync s.params buf cursor)) s)

/-- `PARSE_CANDIDATE(c)` (R162): the outcome tag, the latches of the micro-operations it reaches, and the verdict. -/
def execParseCandidate (c : Bytes) (s : State) : Host.Outcome State Fault Refusal :=
  .next (returns (.verdict (parseCandidate s.params c)) { s with dp := latchVerdict s.params c s.dp })

/-- `PARSE_PASS(buf)` (R174): the sequencer runs over the operand; the architectural buffer is not written, since the
function is pure and the write is `ADD_DATA`'s (R194). -/
def execParsePass (buf : Bytes) (s : State) : Host.Outcome State Fault Refusal :=
  .next (returns (.pass (parsePass s.params buf)) { s with dp := runPass s.params buf s.dp })

/-- `TRIM(retained, bufferLimit)`: writes `buf` (R173). -/
def execTrim (retained : Bytes) (limit : Nat) (s : State) : Host.Outcome State Fault Refusal :=
  .next { s with buf := trimTail retained limit }

end Sys2Proof.Machine
end

