-- ==== Sys2Proof/Machine/HostOps.lean ====
section
/-!
DEFINITION. The host operations (45_host_operations): INIT, ADD_DATA, GET_FRAMES, the reserved operation bytes; and the
reset event (70_reset_and_hazards R240).
-/

namespace Sys2Proof.Machine

/-- A configuration is valid when the memory operand is a boolean and the limit a positive integer (R85, R191). -/
def validConfig (memory : Byte) (limit : Nat) : Bool := (memory == 0x00#8 || memory == 0x01#8) && decide (1 ≤ limit)

/-- A successful `INIT` (R190, R241): the configuration is set, buffer and queue are emptied. -/
def configure (memory : Bool) (limit : Nat) (s : State) : State :=
  respond .ok
    { s with
      configured := true
      memory := memory
      bufferLimit := limit
      buf := []
      queue := []
      dp := unspecifiedDatapath s.freeCount
      freeCount := s.freeCount + 1 }

/-- The four steps of `ADD_DATA` on a configured instance, in their order: the buffer write, the whole pass, the trim, the
queue update (R192 to R197). -/
def ingest (chunk : Bytes) (s : State) : State :=
  let d := runPass s.params (receive s.memory s.buf chunk) s.dp
  respond (.okDiag d.diag)
    { s with
      dp := d
      buf := trimTail d.retained s.bufferLimit
      queue := emit s.memory s.queue d.batch }

/-- `INIT(m, L)` (R190, R191). -/
def execInit (memory : Byte) (limit : Nat) (s : State) : Host.Outcome State Fault Refusal :=
  if validConfig memory limit then .next (configure (decide (memory = 0x01#8)) limit s) else .next (raiseConfigError s)

/-- `ADD_DATA(chunk)` (R197, R201). -/
def execAddData (chunk : Bytes) (s : State) : Host.Outcome State Fault Refusal :=
  if s.configured then .next (ingest chunk s) else .next (refuseNotConfigured s)

/-- `GET_FRAMES` (R198, R201): the whole queue is returned, and the queue is empty. -/
def execGetFrames (s : State) : Host.Outcome State Fault Refusal :=
  if s.configured then .next (respond (.frames s.queue) { s with queue := [] }) else .next (refuseNotConfigured s)

/-- Operation byte `0x03` (R202). -/
def execReservedOp03 (s : State) : Host.Outcome State Fault Refusal := .next (refuseBadOp s)

/-- Operation bytes `0x04` to `0x07` (R202). -/
def execReservedOp04 (_low : BitVec 2) (s : State) : Host.Outcome State Fault Refusal := .next (refuseBadOp s)

/-- Operation bytes `0x08` to `0x0F` (R202). -/
def execReservedOp08 (_low : BitVec 3) (s : State) : Host.Outcome State Fault Refusal := .next (refuseBadOp s)

/-- Operation bytes `0x10` to `0x1F` (R202). -/
def execReservedOp10 (_low : BitVec 4) (s : State) : Host.Outcome State Fault Refusal := .next (refuseBadOp s)

/-- Operation bytes `0x20` to `0x3F` (R202). -/
def execReservedOp20 (_low : BitVec 5) (s : State) : Host.Outcome State Fault Refusal := .next (refuseBadOp s)

/-- Operation bytes `0x40` to `0x7F` (R202). -/
def execReservedOp40 (_low : BitVec 6) (s : State) : Host.Outcome State Fault Refusal := .next (refuseBadOp s)

/-- Operation bytes `0x80` to `0xFF` (R202). -/
def execReservedOp80 (_low : BitVec 7) (s : State) : Host.Outcome State Fault Refusal := .next (refuseBadOp s)

/-- The reset event (R240): unconfigured, empty buffer and queue, `Idle`; every other element of the block is unspecified
(R37): free values (log 6). The host's side of the interface is not the block's and stays. -/
def execReset (s : State) : Host.Outcome State Fault Refusal :=
  .next
    { s with
      configured := false
      memory := Config.freeMemory s.freeCount
      bufferLimit := Config.freeLimit s.freeCount
      buf := []
      queue := []
      dp := unspecifiedDatapath s.freeCount
      resetReq := false
      freeCount := s.freeCount + 1 }

end Sys2Proof.Machine
end

