-- ==== Sys2Proof/Machine/Pseudo.lean ====
section
/-!
DEFINITION. The pseudo-operations (30_encoding R91, R92): expansions to bytes, and ADD_FRAME.
-/

namespace Sys2Proof.Machine

/-- The bytes the CRC covers: id, class, the two length bytes in wire order, the payload (R75, R91). -/
def frameBody (messageId messageClass : Byte) (payload : Bytes) : Bytes :=
  [messageId, messageClass] ++ u16Bytes (BitVec.ofNat 16 payload.length) ++ payload

/-- `FRAME(id, class, payload)`, the frame encoder (R91). -/
def frameBytes (P : Params) (messageId messageClass : Byte) (payload : Bytes) : Bytes :=
  frameWire P messageId messageClass payload (computeCrc (frameBody messageId messageClass payload)) P.etx

/-- `FRAME_BADCRC`: `c` replaced by `c xor 0x0001` (R91). -/
def frameBadCrcBytes (P : Params) (messageId messageClass : Byte) (payload : Bytes) : Bytes :=
  frameWire P messageId messageClass payload (computeCrc (frameBody messageId messageClass payload) ^^^ 0x0001#16) P.etx

/-- `FRAME_BADETX`: the last byte replaced by `ETX xor 0xFF` (R91). -/
def frameBadEtxBytes (P : Params) (messageId messageClass : Byte) (payload : Bytes) : Bytes :=
  frameWire P messageId messageClass payload (computeCrc (frameBody messageId messageClass payload)) (P.etx ^^^ 0xFF#8)

/-- An expansion that exists only for a payload the length field can declare (R91). -/
def expandFrame (payload bytes : Bytes) (s : State) : Host.Outcome State Fault Refusal :=
  if payloadFits payload then .next (returns (.bytes bytes) s) else .refused .payloadTooLong

/-- `FRAME(id, class, payload)` (R91). -/
def execPseudoFrame (messageId messageClass : Byte) (payload : Bytes) (s : State) : Host.Outcome State Fault Refusal :=
  expandFrame payload (frameBytes s.params messageId messageClass payload) s

/-- `FRAME_BADCRC(id, class, payload)` (R91). -/
def execPseudoFrameBadCrc (messageId messageClass : Byte) (payload : Bytes) (s : State) :
    Host.Outcome State Fault Refusal :=
  expandFrame payload (frameBadCrcBytes s.params messageId messageClass payload) s

/-- `FRAME_BADETX(id, class, payload)` (R91). -/
def execPseudoFrameBadEtx (messageId messageClass : Byte) (payload : Bytes) (s : State) :
    Host.Outcome State Fault Refusal :=
  expandFrame payload (frameBadEtxBytes s.params messageId messageClass payload) s

/-- `ADD_FRAME id class payload` abbreviates `ADD_DATA FRAME(id, class, payload)` (R91). -/
def execAddFrame (messageId messageClass : Byte) (payload : Bytes) (s : State) : Host.Outcome State Fault Refusal :=
  if payloadFits payload then execAddData (frameBytes s.params messageId messageClass payload) s
  else .refused .payloadTooLong

/-- `LARGE_PAYLOAD(tid, page, total, data)` (R92). -/
def execLargePayload (transmissionId : Byte) (pageIndex totalPages : U16) (data : Bytes) (s : State) :
    Host.Outcome State Fault Refusal :=
  .next (returns (.bytes (largeWire transmissionId pageIndex totalPages data)) s)

/-- `REP(b, k)` (R92). -/
def execRep (b : Byte) (k : Nat) (s : State) : Host.Outcome State Fault Refusal :=
  .next (returns (.bytes (List.replicate k b)) s)

end Sys2Proof.Machine
end

