-- ==== Sys2Proof/Machine/Wire.lean ====
section
/-!
DEFINITION. The decoded formats as instructions (30_encoding): a frame on the wire gets the verdict of PARSE_CANDIDATE
(R71, R162), a large payload gets DECODE_LARGE (R77, R136), a class byte selects the message type (R80, R145).
-/

namespace Sys2Proof.Machine

/-- A frame on the wire (R71): the verdict on its bytes (R82, R162). -/
def execFrame (messageId messageClass : Byte) (payload : Bytes) (crc : U16) (terminator : Byte) (s : State) :
    Host.Outcome State Fault Refusal :=
  if payloadFits payload then
    .next (returns (.verdict (parseCandidate s.params (frameWire s.params messageId messageClass payload crc terminator)))
      { s with dp := latchVerdict s.params (frameWire s.params messageId messageClass payload crc terminator) s.dp })
  else .refused .payloadTooLong

/-- The payload of a large frame (R77): its metadata is latched (R136). -/
def execLarge (transmissionId : Byte) (pageIndex totalPages : U16) (pageData : Bytes) (s : State) :
    Host.Outcome State Fault Refusal :=
  .next (returns (.largeMeta (largeMetaAt (largeWire transmissionId pageIndex totalPages pageData)))
    { s with dp := { s.dp with large := some (largeMetaAt (largeWire transmissionId pageIndex totalPages pageData)) } })

/-- The message type that a class byte selects (R80, R145). -/
def selectType (messageClass : Byte) (s : State) : Host.Outcome State Fault Refusal :=
  .next (returns (.messageType (typeOfClass messageClass)) s)

/-- Class byte `0x00` (R80). -/
def execClassLog (s : State) : Host.Outcome State Fault Refusal := selectType 0x00#8 s

/-- Class byte `0x01` (R80). -/
def execClassHighFrequency (s : State) : Host.Outcome State Fault Refusal := selectType 0x01#8 s

/-- Class byte `0x02` (R80). -/
def execClassNmeaStandard (s : State) : Host.Outcome State Fault Refusal := selectType 0x02#8 s

/-- Class byte `0x03` (R80). -/
def execClassNmeaProprietary (s : State) : Host.Outcome State Fault Refusal := selectType 0x03#8 s

/-- Class byte `0x04` (R80). -/
def execClassThirdParty (s : State) : Host.Outcome State Fault Refusal := selectType 0x04#8 s

/-- Class byte `0x10` (R80). -/
def execClassCommand (s : State) : Host.Outcome State Fault Refusal := selectType 0x10#8 s

/-- Class byte `0x05` (R80). -/
def execClassUnknown05 (s : State) : Host.Outcome State Fault Refusal := selectType 0x05#8 s

/-- Class bytes `0x06`, `0x07` (R80). -/
def execClassUnknown06 (low : BitVec 1) (s : State) : Host.Outcome State Fault Refusal := selectType (3#7 ++ low) s

/-- Class bytes `0x08` to `0x0F` (R80). -/
def execClassUnknown08 (low : BitVec 3) (s : State) : Host.Outcome State Fault Refusal := selectType (1#5 ++ low) s

/-- Class byte `0x11` (R80). -/
def execClassUnknown11 (s : State) : Host.Outcome State Fault Refusal := selectType 0x11#8 s

/-- Class bytes `0x12`, `0x13` (R80). -/
def execClassUnknown12 (low : BitVec 1) (s : State) : Host.Outcome State Fault Refusal := selectType (9#7 ++ low) s

/-- Class bytes `0x14` to `0x17` (R80). -/
def execClassUnknown14 (low : BitVec 2) (s : State) : Host.Outcome State Fault Refusal := selectType (5#6 ++ low) s

/-- Class bytes `0x18` to `0x1F` (R80). -/
def execClassUnknown18 (low : BitVec 3) (s : State) : Host.Outcome State Fault Refusal := selectType (3#5 ++ low) s

/-- Class bytes `0x20` to `0x3F` (R80). -/
def execClassUnknown20 (low : BitVec 5) (s : State) : Host.Outcome State Fault Refusal := selectType (1#3 ++ low) s

/-- Class bytes `0x40` to `0x7F` (R80). -/
def execClassUnknown40 (low : BitVec 6) (s : State) : Host.Outcome State Fault Refusal := selectType (1#2 ++ low) s

/-- Class bytes `0x80` to `0xFF` (R80). -/
def execClassUnknown80 (low : BitVec 7) (s : State) : Host.Outcome State Fault Refusal := selectType (1#1 ++ low) s

end Sys2Proof.Machine
end

