-- ==== Sys2Proof/Machine/Dispatch.lean ====
section
/-!
DEFINITION. The dispatch: one arm per constructor of Instr, in the order of the opcode table.
-/

namespace Sys2Proof.Machine

open Sys2Proof

def exec (i : Instr) (s : State) : Host.Outcome State Fault Refusal :=
  match i with
  | .init memory limit => Sys2Proof.Machine.execInit memory limit s
  | .addData chunk => Sys2Proof.Machine.execAddData chunk s
  | .getFrames => Sys2Proof.Machine.execGetFrames s
  | .reservedOp03 => Sys2Proof.Machine.execReservedOp03 s
  | .reservedOp04 low => Sys2Proof.Machine.execReservedOp04 low s
  | .reservedOp08 low => Sys2Proof.Machine.execReservedOp08 low s
  | .reservedOp10 low => Sys2Proof.Machine.execReservedOp10 low s
  | .reservedOp20 low => Sys2Proof.Machine.execReservedOp20 low s
  | .reservedOp40 low => Sys2Proof.Machine.execReservedOp40 low s
  | .reservedOp80 low => Sys2Proof.Machine.execReservedOp80 low s
  | .frame messageId messageClass payload crc terminator => Sys2Proof.Machine.execFrame messageId messageClass payload crc terminator s
  | .large transmissionId pageIndex totalPages pageData => Sys2Proof.Machine.execLarge transmissionId pageIndex totalPages pageData s
  | .classLog => Sys2Proof.Machine.execClassLog s
  | .classHighFrequency => Sys2Proof.Machine.execClassHighFrequency s
  | .classNmeaStandard => Sys2Proof.Machine.execClassNmeaStandard s
  | .classNmeaProprietary => Sys2Proof.Machine.execClassNmeaProprietary s
  | .classThirdParty => Sys2Proof.Machine.execClassThirdParty s
  | .classCommand => Sys2Proof.Machine.execClassCommand s
  | .classUnknown05 => Sys2Proof.Machine.execClassUnknown05 s
  | .classUnknown06 low => Sys2Proof.Machine.execClassUnknown06 low s
  | .classUnknown08 low => Sys2Proof.Machine.execClassUnknown08 low s
  | .classUnknown11 => Sys2Proof.Machine.execClassUnknown11 s
  | .classUnknown12 low => Sys2Proof.Machine.execClassUnknown12 low s
  | .classUnknown14 low => Sys2Proof.Machine.execClassUnknown14 low s
  | .classUnknown18 low => Sys2Proof.Machine.execClassUnknown18 low s
  | .classUnknown20 low => Sys2Proof.Machine.execClassUnknown20 low s
  | .classUnknown40 low => Sys2Proof.Machine.execClassUnknown40 low s
  | .classUnknown80 low => Sys2Proof.Machine.execClassUnknown80 low s
  | .crcReset => Sys2Proof.Machine.execCrcReset s
  | .crcUpdate b => Sys2Proof.Machine.execCrcUpdate b s
  | .computeCrc bytes => Sys2Proof.Machine.execComputeCrc bytes s
  | .readHeader bytes => Sys2Proof.Machine.execReadHeader bytes s
  | .readFooter bytes => Sys2Proof.Machine.execReadFooter bytes s
  | .isLarge payloadLength => Sys2Proof.Machine.execIsLarge payloadLength s
  | .decodeLarge payload => Sys2Proof.Machine.execDecodeLarge payload s
  | .classToType messageClass => Sys2Proof.Machine.execClassToType messageClass s
  | .dispatch messageClass messageId payload => Sys2Proof.Machine.execDispatch messageClass messageId payload s
  | .findLastSync buf => Sys2Proof.Machine.execFindLastSync buf s
  | .findNextSync buf cursor => Sys2Proof.Machine.execFindNextSync buf cursor s
  | .parseCandidate c => Sys2Proof.Machine.execParseCandidate c s
  | .parsePass buf => Sys2Proof.Machine.execParsePass buf s
  | .trim retained limit => Sys2Proof.Machine.execTrim retained limit s
  | .reset => Sys2Proof.Machine.execReset s
  | .pseudoFrame messageId messageClass payload => Sys2Proof.Machine.execPseudoFrame messageId messageClass payload s
  | .pseudoFrameBadCrc messageId messageClass payload => Sys2Proof.Machine.execPseudoFrameBadCrc messageId messageClass payload s
  | .pseudoFrameBadEtx messageId messageClass payload => Sys2Proof.Machine.execPseudoFrameBadEtx messageId messageClass payload s
  | .addFrame messageId messageClass payload => Sys2Proof.Machine.execAddFrame messageId messageClass payload s
  | .largePayload transmissionId pageIndex totalPages data => Sys2Proof.Machine.execLargePayload transmissionId pageIndex totalPages data s
  | .rep b k => Sys2Proof.Machine.execRep b k s

end Sys2Proof.Machine
end

