-- ==== Sys2Proof/Machine/Step.lean ====
section
/-!
DEFINITION. One step of the machine: a pending reset event, or the host operation word at the head of the pending input, or
nothing while no whole word is there (00_scope R2, 20_memory R63, 70_reset_and_hazards R255).
-/

namespace Sys2Proof.Machine

open Sys2Proof

/-- One atomic step. A reset happens between operations only (R240, 93 U18); an operation runs to completion (R63). While
the input holds no whole operation word the machine waits and nothing changes (DESIGN CHOICE, log 8). -/
def step (s : State) : Host.Outcome State Fault Refusal :=
  if s.resetReq then exec .reset s
  else
    match decode s.input with
    | .ok (i, rest) => exec i { s with input := rest }
    | .error _ => .next s

/-- `s` with the operation word of a table row as the only pending operation and no reset pending, so that the next step
runs it (log 12). -/
def State.withFetchWord (s : State) (nbits w : Nat) : State :=
  { s with input := tableWordBytes nbits w, resetReq := false }

end Sys2Proof.Machine
end

