-- ==== Sys2Proof/Safety.lean ====
section
/-!
DEFINITION. The terms that claims use: what makes a frame sound, the invariant of the architectural state, what an
operation may leave alone, and runs of several operations.
-/

namespace Sys2Proof.Machine

open Sys2Proof

/-- What every completed frame satisfies (R33, R178): the span is a whole frame with its sync, checksum and terminator, and
every field is the one the span gives. -/
def FrameSound (P : Params) (f : Frame) : Prop :=
  byteAt f.rawBytes 0 = P.sync0 ∧
  byteAt f.rawBytes 1 = P.sync1 ∧
  f.rawBytes.length = 9 + (le16 f.rawBytes 4).toNat ∧
  computeCrc (slice f.rawBytes 2 (f.rawBytes.length - 3)) = le16 f.rawBytes (f.rawBytes.length - 3) ∧
  byteAt f.rawBytes (f.rawBytes.length - 1) = P.etx ∧
  f.header = ⟨(byteAt f.rawBytes 0, byteAt f.rawBytes 1), byteAt f.rawBytes 2, byteAt f.rawBytes 3, le16 f.rawBytes 4⟩ ∧
  f.footer = ⟨le16 f.rawBytes (f.rawBytes.length - 3), byteAt f.rawBytes (f.rawBytes.length - 1)⟩ ∧
  f.messageType = typeOfClass (byteAt f.rawBytes 3) ∧
  (f.name, f.data) =
    dispatchPayload P (byteAt f.rawBytes 3) (byteAt f.rawBytes 2) (slice f.rawBytes 6 (f.rawBytes.length - 3)) ∧
  (f.format = .large ↔ 4096 < (le16 f.rawBytes 4).toNat) ∧
  f.large =
    (if 4096 < (le16 f.rawBytes 4).toNat then some (largeMetaAt (slice f.rawBytes 6 (f.rawBytes.length - 3))) else none)

/-- The invariant of the state between host operations (R38 (a), (c), (d), R30): the sequencer is idle; while configured the
limit is positive, the buffer is within it, and every queued frame is sound. -/
def State.Inv (s : State) : Prop :=
  s.dp.seqState = .idle ∧
  (s.configured = true →
    1 ≤ s.bufferLimit ∧ s.buf.length ≤ s.bufferLimit ∧ ∀ f ∈ s.queue, FrameSound s.params f)

/-- The sequence is empty, or it is one incomplete candidate at its only marker (R38 (b)). -/
def PendingCandidate (P : Params) (buf : Bytes) : Prop :=
  buf = [] ∨
    (MarkerIndex P buf 0 ∧ (∀ i, MarkerIndex P buf i → i = 0) ∧
      (buf.length < 9 ∨ buf.length < 9 + (le16 buf 4).toNat))

/-- `t` has the architectural state of `s` (R20), its parameters and its host interface. -/
def SameArch (s t : State) : Prop :=
  t.configured = s.configured ∧ t.memory = s.memory ∧ t.bufferLimit = s.bufferLimit ∧ t.buf = s.buf ∧
  t.queue = s.queue ∧ t.params = s.params ∧ t.input = s.input ∧ t.resetReq = s.resetReq ∧ t.responses = s.responses

/-- From `d` to `e` nothing changes but the latches, the flag and the tag that a verdict writes (R162, R166 to R171). -/
def VerdictLatchesOnly (d e : Datapath) : Prop :=
  e = { d with
    header := e.header, footer := e.footer, crcAcc := e.crcAcc, isLarge := e.isLarge, large := e.large,
    outcome := e.outcome }

/-- The frames the host has received so far, oldest first (R198). -/
def delivered (s : State) : List Frame :=
  s.responses.flatMap fun r => match r with
    | .frames fs => fs
    | _ => []

/-- A list of instructions run in order; `none` if one of them stops. -/
def runInstrs : List Instr → State → Option State
  | [], s => some s
  | i :: is, s =>
      match exec i s with
      | .next t => runInstrs is t
      | _ => none

/-- One of the seven reserved rows, with any low bits (R84, R202). -/
def ReservedRow (i : Instr) : Prop :=
  i = .reservedOp03 ∨ (∃ x, i = .reservedOp04 x) ∨ (∃ x, i = .reservedOp08 x) ∨ (∃ x, i = .reservedOp10 x) ∨
    (∃ x, i = .reservedOp20 x) ∨ (∃ x, i = .reservedOp40 x) ∨ ∃ x, i = .reservedOp80 x

/-- The instruction adds no frame and leaves a configured instance configured: it is neither `ADD_DATA` nor `ADD_FRAME`
nor the reset event, and if it is `INIT` then a valid one (R190, R196, R240). -/
def BetweenDrains (i : Instr) : Prop :=
  (∀ chunk, i ≠ .addData chunk) ∧ (∀ a b p, i ≠ .addFrame a b p) ∧ i ≠ .reset ∧
    ∀ m L, i = .init m L → (m = 0x00#8 ∨ m = 0x01#8) ∧ 1 ≤ L

end Sys2Proof.Machine
end

