-- ==== Sys2Proof/Certificates/Slice0/Obligations.lean ====
section
/-!
DEFINITION. The statements for the provers, from the numbered rules of spec/. Each docstring names the rule it formalises; a
clause that rests on the model's own choice names the log entry. In all of them the fields that carry what the spec calls a
response and a returned value, `responses` and `result`, are the model's (log 9, log 10).
-/

open Sys2Proof Sys2Proof.Machine

/-! ### Host operations -/

/-- R190: a valid `INIT` configures the instance and empties buffer and queue, whatever was there before; the sequencer is
idle (R37). The response log, the pending input, the reset request and the parameters are the model's (log 1, 8, 9, 11). -/
def Obligations.InitValidConfiguresAndEmpties : Prop :=
  ∀ (s : State) (m : Byte) (L : Nat), (m = 0x00#8 ∨ m = 0x01#8) → 1 ≤ L →
    ∃ t, exec (.init m L) s = .next t ∧
      t.configured = true ∧ (t.memory = true ↔ m = 0x01#8) ∧ t.bufferLimit = L ∧ t.buf = [] ∧ t.queue = [] ∧
      t.dp.seqState = .idle ∧ t.responses = s.responses ++ [.ok] ∧
      t.params = s.params ∧ t.input = s.input ∧ t.resetReq = s.resetReq ∧ t.result = s.result

/-- R191, R216: an `INIT` with a zero limit or a memory byte that is no boolean answers `ConfigError` and leaves the
instance unconfigured; the two other operations are then refused. Nothing is said of `memory`, `bufferLimit`, `buf` and
`queue`, which are unspecified. -/
def Obligations.InitInvalidRaisesConfigError : Prop :=
  ∀ (s : State) (m : Byte) (L : Nat), ((m ≠ 0x00#8 ∧ m ≠ 0x01#8) ∨ L = 0) →
    ∃ t, exec (.init m L) s = .next t ∧
      t.configured = false ∧ t.responses = s.responses ++ [.configError] ∧
      t.dp = s.dp ∧ t.params = s.params ∧ t.input = s.input ∧ t.resetReq = s.resetReq ∧ t.result = s.result ∧
      (∀ chunk, exec (.addData chunk) t = .next { t with responses := t.responses ++ [.notConfigured] }) ∧
      exec .getFrames t = .next { t with responses := t.responses ++ [.notConfigured] }

/-- R241: re-initialisation has the effect of reset followed by configuration, on everything that R37 specifies. -/
def Obligations.ReinitEqualsResetThenInit : Prop :=
  ∀ (s : State) (m : Byte) (L : Nat), s.resetReq = false → (m = 0x00#8 ∨ m = 0x01#8) → 1 ≤ L →
    ∃ t u, runInstrs [.init m L] s = some t ∧ runInstrs [.reset, .init m L] s = some u ∧
      SameArch t u ∧ t.dp.seqState = u.dp.seqState

/-- R197 with R192 to R194 and R196: the four steps of `ADD_DATA` on a configured instance, the pass being that of R174;
`ADD_FRAME` of a frame with those bytes does the same (R91). -/
def Obligations.AddDataWritesPassesTrimsQueues : Prop :=
  ∀ (s : State) (chunk : Bytes), s.configured = true →
    let whole := if s.memory then s.buf ++ chunk else chunk
    let r := parsePass s.params whole
    ∃ t, exec (.addData chunk) s = .next t ∧
      (∀ i c p, p.length ≤ 65535 → chunk = frameBytes s.params i c p → exec (.addFrame i c p) s = .next t) ∧
      t.buf = (if s.bufferLimit < r.retained.length then r.retained.drop (r.retained.length - s.bufferLimit)
        else r.retained) ∧
      t.queue = (if s.memory then s.queue ++ r.batch else r.batch) ∧
      t.responses = s.responses ++ [.okDiag r.diag] ∧
      t.configured = s.configured ∧ t.memory = s.memory ∧ t.bufferLimit = s.bufferLimit ∧
      t.params = s.params ∧ t.input = s.input ∧ t.resetReq = s.resetReq ∧ t.result = s.result ∧
      t.dp.seqState = .idle

/-- R201: `ADD_DATA` and `GET_FRAMES` while unconfigured answer `NotConfigured` and change nothing else. -/
def Obligations.UnconfiguredOperationsAnswerNotConfigured : Prop :=
  ∀ (s : State), s.configured = false →
    (∀ chunk, exec (.addData chunk) s = .next { s with responses := s.responses ++ [.notConfigured] }) ∧
    exec .getFrames s = .next { s with responses := s.responses ++ [.notConfigured] }

/-- R198: `GET_FRAMES` returns the whole queue, oldest first, and empties it; nothing else changes. -/
def Obligations.GetFramesReturnsAndEmptiesQueue : Prop :=
  ∀ (s : State), s.configured = true →
    exec .getFrames s = .next { s with queue := [], responses := s.responses ++ [.frames s.queue] }

/-- R200: two drains with no `ADD_DATA` between them return the full list and then the empty list. Between them may stand any
list of reserved operation bytes, each answered `BadOp` (R202); and, as long as the run goes on, any list of instructions
that add no frame and leave the instance configured, further drains and valid `INIT`s included. -/
def Obligations.SecondDrainIsEmpty : Prop :=
  ∀ (s : State) (mid : List Instr), s.configured = true →
    ((∀ i ∈ mid, ReservedRow i) →
      ∃ t, runInstrs ([.getFrames] ++ mid ++ [.getFrames]) s = some t ∧
        t.responses = s.responses ++ [.frames s.queue] ++ List.replicate mid.length .badOp ++ [.frames []] ∧
        t.queue = []) ∧
    ((∀ i ∈ mid, BetweenDrains i) → ∀ u, runInstrs ([.getFrames] ++ mid) s = some u →
      ∃ rs t, u.responses = s.responses ++ [.frames s.queue] ++ rs ∧ exec .getFrames u = .next t ∧
        t.responses = u.responses ++ [.frames []] ∧ t.queue = [])

/-- R202, R84: each of the seven reserved rows answers `BadOp` and changes no state, configured or not; and every operation
byte `0x03` to `0xFF` at the head of the input is consumed alone and answered so. That operation words stand in an input
stream, and that a pending reset goes before them, are the model's choices (log 8, log 11). -/
def Obligations.ReservedOperationsAnswerBadOp : Prop :=
  (∀ (s : State),
    let t : State := { s with responses := s.responses ++ [.badOp] }
    exec .reservedOp03 s = .next t ∧
    (∀ x, exec (.reservedOp04 x) s = .next t) ∧ (∀ x, exec (.reservedOp08 x) s = .next t) ∧
    (∀ x, exec (.reservedOp10 x) s = .next t) ∧ (∀ x, exec (.reservedOp20 x) s = .next t) ∧
    (∀ x, exec (.reservedOp40 x) s = .next t) ∧ (∀ x, exec (.reservedOp80 x) s = .next t)) ∧
  ∀ (s : State) (b : Byte) (rest : Bytes), 3 ≤ b.toNat → s.resetReq = false → s.input = b :: rest →
    step s = .next { s with input := rest, responses := s.responses ++ [.badOp] }

/-- R195: an empty chunk. With memory on and a buffer that holds one pending candidate within the limit it changes nothing
of the architectural state; with memory off it discards the buffer and the latest batch. -/
def Obligations.EmptyChunkRescansOrDiscards : Prop :=
  ∀ (s : State), s.configured = true →
    (s.memory = true → PendingCandidate s.params s.buf → s.buf.length ≤ s.bufferLimit →
      ∃ t, exec (.addData []) s = .next t ∧ t.buf = s.buf ∧ t.queue = s.queue ∧
        t.responses = s.responses ++ [.okDiag []]) ∧
    (s.memory = false →
      ∃ t, exec (.addData []) s = .next t ∧ t.buf = [] ∧ t.queue = [] ∧ t.responses = s.responses ++ [.okDiag []])

/-- R203: with memory off, two single-frame `ADD_DATA` leave only the second frame for the next drain. -/
def Obligations.MemoryOffKeepsOnlyLatestFrame : Prop :=
  ∀ (s : State) (i c i' c' : Byte) (p p' : Bytes), s.configured = true → s.memory = false →
    p.length ≤ 65535 → p'.length ≤ 65535 →
    ∃ t f, runInstrs [.addFrame i c p, .addFrame i' c' p', .getFrames] s = some t ∧
      t.responses = s.responses ++ [.okDiag [], .okDiag [], .frames [f]] ∧
      f.rawBytes = frameBytes s.params i' c' p' ∧ t.queue = []

/-- R204: with memory on and nothing pending, two single-frame `ADD_DATA` accumulate in order. -/
def Obligations.MemoryOnAccumulatesInOrder : Prop :=
  ∀ (s : State) (i c i' c' : Byte) (p p' : Bytes), s.configured = true → s.memory = true → s.buf = [] → s.queue = [] →
    p.length ≤ 65535 → p'.length ≤ 65535 →
    ∃ t f f', runInstrs [.addFrame i c p, .addFrame i' c' p', .getFrames] s = some t ∧
      t.responses = s.responses ++ [.okDiag [], .okDiag [], .frames [f, f']] ∧
      f.rawBytes = frameBytes s.params i c p ∧ f'.rawBytes = frameBytes s.params i' c' p' ∧ t.queue = []

/-- R205, R198: what was delivered and what waits, taken together, is only ever extended at its end by an `ADD_DATA` with
memory on, and a drain moves frames from one to the other: no frame is delivered twice, reordered or changed. -/
def Obligations.FramesDeliveredOnceInOrder : Prop :=
  ∀ (s t : State), s.configured = true →
    (exec .getFrames s = .next t → delivered t = delivered s ++ s.queue ∧ t.queue = []) ∧
    (∀ chunk, s.memory = true → exec (.addData chunk) s = .next t →
      delivered t = delivered s ∧ t.queue = s.queue ++ (parsePass s.params (s.buf ++ chunk)).batch)

/-! ### The CRC Engine -/

/-- R101: `CRC_RESET` clears the accumulator and changes nothing else. -/
def Obligations.CrcResetClearsAccumulator : Prop :=
  ∀ (s : State), exec .crcReset s = .next { s with dp := { s.dp with crcAcc := 0x0000#16 } }

/-- R102: `CRC_UPDATE` is the bit-serial step: the byte enters the low half, then eight times a logical right shift, with
`0x8408` where bit 0 was 1. The procedure is the one R102 writes out and marks as general knowledge, not in its source
(PRESUMED, log 3). -/
def Obligations.CrcUpdateIsBitSerialStep : Prop :=
  ∀ (s : State) (b : Byte), ∃ c : Nat → U16,
    c 0 = s.dp.crcAcc ^^^ b.setWidth 16 ∧
    (∀ k, k < 8 → c (k + 1) = if (c k).getLsbD 0 then (c k >>> 1) ^^^ 0x8408#16 else c k >>> 1) ∧
    exec (.crcUpdate b) s = .next { s with dp := { s.dp with crcAcc := c 8 } }

/-- R102, R105, R106: the step is a bijection of the accumulator for a fixed byte, linear over exclusive-or, and equal to the
table form with `T[i] = CRC_UPDATE(i)` from `0x0000`. -/
def Obligations.CrcUpdateIsBijectiveLinearAndTabular : Prop :=
  (∀ b : Byte, Function.Bijective fun acc => crcUpdate acc b) ∧
  (∀ (x y : U16) (a b : Byte), crcUpdate (x ^^^ y) (a ^^^ b) = crcUpdate x a ^^^ crcUpdate y b) ∧
  ∀ (acc : U16) (b : Byte),
    crcUpdate acc b = (acc >>> 8) ^^^ crcUpdate 0x0000#16 ((acc ^^^ b.setWidth 16).setWidth 8)

/-- R103: `COMPUTE_CRC` resets, updates in increasing index order, and returns the accumulator with no inversion. That there
is no final inversion, and the step itself, are general knowledge in the spec's own words (R100, R102; PRESUMED, log 3). -/
def Obligations.ComputeCrcFoldsUpdates : Prop :=
  ∀ (s : State) (bytes : Bytes),
    (∃ v, exec (.computeCrc bytes) s = .next { s with dp := { s.dp with crcAcc := v }, result := .crc v } ∧
      v = computeCrc bytes) ∧
    computeCrc [] = 0x0000#16 ∧ ∀ b, computeCrc (bytes ++ [b]) = crcUpdate (computeCrc bytes) b

/-- R106 (b) to (e): the split point does not matter; for sequences of equal length the CRC is linear over byte-wise
exclusive-or; leading zero bytes do not count; a message followed by its CRC, low byte first, has CRC zero. -/
def Obligations.ComputeCrcStreamsLinearAndResidue : Prop :=
  (∀ a b : Bytes, computeCrc (a ++ b) = b.foldl crcUpdate (computeCrc a)) ∧
  (∀ a b : Bytes, a.length = b.length →
    computeCrc (List.zipWith (fun x y => x ^^^ y) a b) = computeCrc a ^^^ computeCrc b) ∧
  (∀ (n : Nat) (a : Bytes), computeCrc (List.replicate n 0x00#8 ++ a) = computeCrc a) ∧
  ∀ m : Bytes, computeCrc (m ++ [(computeCrc m).extractLsb' 0 8, (computeCrc m).extractLsb' 8 8]) = 0x0000#16

/-- R106 (f): a change confined to one byte of the covered range changes the CRC. -/
def Obligations.ComputeCrcDetectsOneByteChange : Prop :=
  ∀ (a c : Bytes) (x y : Byte), x ≠ y → computeCrc (a ++ [x] ++ c) ≠ computeCrc (a ++ [y] ++ c)

/-! ### The codecs -/

/-- R9, R52: the byte at the lower index is the less significant. -/
def Obligations.Le16IsLittleEndian : Prop :=
  ∀ (b : Bytes) (i : Nat) (h : i + 1 < b.length),
    (le16 b i).toNat = (b[i]'(Nat.lt_of_succ_lt h)).toNat + 256 * (b[i + 1]).toNat

/-- R120: `READ_HEADER` copies the fields at their fixed offsets, judging nothing, or returns `InsufficientLength` with
fewer than 6 bytes. -/
def Obligations.ReadHeaderExtractsFixedOffsets : Prop :=
  ∀ (s : State) (bytes : Bytes),
    (6 ≤ bytes.length →
      let h : Header := ⟨(byteAt bytes 0, byteAt bytes 1), byteAt bytes 2, byteAt bytes 3, le16 bytes 4⟩
      exec (.readHeader bytes) s = .next { s with dp := { s.dp with header := h }, result := .header h }) ∧
    (bytes.length < 6 → exec (.readHeader bytes) s = .next { s with result := .insufficientLength })

/-- R123: under its precondition `READ_FOOTER` returns the CRC and the terminator that stand `N` bytes after the header, as
read. -/
def Obligations.ReadFooterFollowsDeclaredLength : Prop :=
  ∀ (s : State) (bytes : Bytes), 9 + (le16 bytes 4).toNat ≤ bytes.length →
    let f : Footer := ⟨le16 bytes (6 + (le16 bytes 4).toNat), byteAt bytes (8 + (le16 bytes 4).toNat)⟩
    exec (.readFooter bytes) s = .next { s with dp := { s.dp with footer := f }, result := .footer f }

/-- R124, R139: outside their preconditions the two codecs return no value. That the instruction completes, returning
`none`, with the latch it owns unconstrained, is the model's choice (log 7); nothing else changes. -/
def Obligations.CodecsReturnNoneOutsidePreconditions : Prop :=
  ∀ (s : State) (bytes : Bytes),
    (bytes.length < 9 + (le16 bytes 4).toNat →
      ∃ t, exec (.readFooter bytes) s = .next t ∧ t.result = .noResult ∧ SameArch s t ∧
        { t.dp with footer := s.dp.footer } = s.dp) ∧
    (bytes.length < 5 →
      ∃ t, exec (.decodeLarge bytes) s = .next t ∧ t.result = .noResult ∧ SameArch s t ∧
        { t.dp with large := s.dp.large } = s.dp)

/-- R135: `IS_LARGE` is the unsigned comparison with 4096. -/
def Obligations.IsLargeComparesWithThreshold : Prop :=
  ∀ (s : State) (n : U16), ∃ b, (b = true ↔ 4096 < n.toNat) ∧
    exec (.isLarge n) s = .next { s with dp := { s.dp with isLarge := b }, result := .flag b }

/-- R136: `DECODE_LARGE` reads the metadata at its fixed payload offsets; the rest, `N - 5` bytes, is the page data
(R138). -/
def Obligations.DecodeLargeExtractsMetadata : Prop :=
  ∀ (s : State) (payload : Bytes), 5 ≤ payload.length →
    let m : LargeMeta := ⟨byteAt payload 0, le16 payload 1, le16 payload 3, payload.drop 5⟩
    exec (.decodeLarge payload) s = .next { s with dp := { s.dp with large := some m }, result := .largeMeta m } ∧
      m.pageData.length = payload.length - 5

/-- R145: `CLASS_TO_TYPE` is total on the 256 class values. -/
def Obligations.ClassToTypeFollowsTable : Prop :=
  ∀ (s : State) (c : Byte), ∃ ty, exec (.classToType c) s = .next { s with result := .messageType ty } ∧
    (ty = .command ↔ c = 0x10#8) ∧ (ty = .log ↔ c = 0x00#8) ∧ (ty = .highFrequency ↔ c = 0x01#8) ∧
    (ty = .nmeaStandard ↔ c = 0x02#8) ∧ (ty = .nmeaProprietary ↔ c = 0x03#8) ∧ (ty = .thirdParty ↔ c = 0x04#8)

/-- R80: each class row selects its message type; nothing else changes. -/
def Obligations.ClassBytesSelectMessageType : Prop :=
  ∀ (s : State),
    let sel (ty : MessageType) : State := { s with result := .messageType ty }
    exec .classLog s = .next (sel .log) ∧ exec .classHighFrequency s = .next (sel .highFrequency) ∧
    exec .classNmeaStandard s = .next (sel .nmeaStandard) ∧
    exec .classNmeaProprietary s = .next (sel .nmeaProprietary) ∧ exec .classThirdParty s = .next (sel .thirdParty) ∧
    exec .classCommand s = .next (sel .command) ∧
    exec .classUnknown05 s = .next (sel .unknown) ∧ (∀ x, exec (.classUnknown06 x) s = .next (sel .unknown)) ∧
    (∀ x, exec (.classUnknown08 x) s = .next (sel .unknown)) ∧ exec .classUnknown11 s = .next (sel .unknown) ∧
    (∀ x, exec (.classUnknown12 x) s = .next (sel .unknown)) ∧ (∀ x, exec (.classUnknown14 x) s = .next (sel .unknown)) ∧
    (∀ x, exec (.classUnknown18 x) s = .next (sel .unknown)) ∧ (∀ x, exec (.classUnknown20 x) s = .next (sel .unknown)) ∧
    (∀ x, exec (.classUnknown40 x) s = .next (sel .unknown)) ∧ (∀ x, exec (.classUnknown80 x) s = .next (sel .unknown))

/-- R148, R149: `DISPATCH` returns the registry's answer for a pair it holds, and the unknown sentinel for any other pair;
it has no effect on the block. -/
def Obligations.DispatchAnswersRegistryOrSentinel : Prop :=
  ∀ (s : State) (c i : Byte) (p : Bytes),
    ((c, i) ∉ s.params.registry → exec (.dispatch c i p) s = .next { s with result := .dispatched "unknown" none }) ∧
    ((c, i) ∈ s.params.registry →
      exec (.dispatch c i p) s =
        .next { s with result := .dispatched (Config.decoder c i p).1 (Config.decoder c i p).2 })

/-! ### The marker search and the verdict -/

/-- R158: `FIND_NEXT_SYNC` returns the least marker index at or after the cursor, or none if there is none. -/
def Obligations.FindNextSyncIsLeastFromCursor : Prop :=
  ∀ (s : State) (buf : Bytes) (cursor : Nat), ∃ r : Option Nat,
    exec (.findNextSync buf cursor) s = .next { s with result := .index r } ∧
    (∀ i, r = some i →
      cursor ≤ i ∧ MarkerIndex s.params buf i ∧ ∀ j, cursor ≤ j → MarkerIndex s.params buf j → i ≤ j) ∧
    (r = none → ∀ j, cursor ≤ j → ¬ MarkerIndex s.params buf j)

/-- R157: `FIND_LAST_SYNC` returns the greatest marker index, or none, and latches it in `lastSyncIndex`. -/
def Obligations.FindLastSyncIsGreatest : Prop :=
  ∀ (s : State) (buf : Bytes), ∃ r : Option Nat,
    exec (.findLastSync buf) s = .next { s with dp := { s.dp with lastSyncIndex := r }, result := .index r } ∧
    (∀ i, r = some i → MarkerIndex s.params buf i ∧ ∀ j, MarkerIndex s.params buf j → j ≤ i) ∧
    (r = none → ∀ j, ¬ MarkerIndex s.params buf j)

/-- R162, R220: the verdict of `PARSE_CANDIDATE`, by the first test that applies in the fixed order; a complete candidate
gives the frame of R171. Beside the tag only the latches of the micro-operations it reaches may change (log 15). -/
def Obligations.ParseCandidateReportsFirstFailure : Prop :=
  ∀ (s : State) (c : Bytes),
    let N := (le16 c 4).toNat
    ∃ t v, exec (.parseCandidate c) s = .next t ∧ t.result = .verdict v ∧ t.dp.outcome = some v ∧ SameArch s t ∧
      VerdictLatchesOnly s.dp t.dp ∧
      ((c.length < 9 ∨ c.length < 9 + N) → v = .missingBytes) ∧
      (9 + N ≤ c.length → computeCrc (slice c 2 (6 + N)) ≠ le16 c (6 + N) → v = .checksumError) ∧
      (9 + N ≤ c.length → computeCrc (slice c 2 (6 + N)) = le16 c (6 + N) → byteAt c (8 + N) ≠ s.params.etx →
        v = .terminatorError) ∧
      (9 + N ≤ c.length → computeCrc (slice c 2 (6 + N)) = le16 c (6 + N) → byteAt c (8 + N) = s.params.etx →
        ∃ f, v = .complete f ∧
          f.header = ⟨(byteAt c 0, byteAt c 1), byteAt c 2, byteAt c 3, le16 c 4⟩ ∧
          f.footer = ⟨le16 c (6 + N), byteAt c (8 + N)⟩ ∧
          (f.name, f.data) = dispatchPayload s.params (byteAt c 3) (byteAt c 2) (slice c 6 (6 + N)) ∧
          f.messageType = typeOfClass (byteAt c 3) ∧
          f.format = (if 4096 < N then .large else .standard) ∧
          f.rawBytes = slice c 0 (9 + N) ∧
          f.large = (if 4096 < N then some (largeMetaAt (slice c 6 (6 + N))) else none))

/-- R82, R72: a frame on the wire is rejected exactly for its CRC or, the CRC matching, for its terminator; a payload that
no length field can declare is no frame. That a `FRAME` row executed on its own is `PARSE_CANDIDATE` on its bytes, and which
latches it may write, is the model's inference (DEDUCED, log 15); the refusal's name is the model's choice (log 18). -/
def Obligations.WireFrameVerdict : Prop :=
  ∀ (s : State) (i c e : Byte) (p : Bytes) (k : U16),
    let body := [i, c] ++ u16Bytes (BitVec.ofNat 16 p.length) ++ p
    (p.length ≤ 65535 → ∃ t v, exec (.frame i c p k e) s = .next t ∧ t.result = .verdict v ∧ SameArch s t ∧
      VerdictLatchesOnly s.dp t.dp ∧
      (v = .checksumError ↔ computeCrc body ≠ k) ∧
      (v = .terminatorError ↔ computeCrc body = k ∧ e ≠ s.params.etx) ∧
      ((∃ f, v = .complete f ∧ f.rawBytes = frameWire s.params i c p k e) ↔ computeCrc body = k ∧ e = s.params.etx)) ∧
    (65535 < p.length → exec (.frame i c p k e) s = .refused .payloadTooLong)

/-- R77, R136: a large payload on the wire gives back the metadata it was written with; its latch is set. -/
def Obligations.LargePayloadLatchesItsFields : Prop :=
  ∀ (s : State) (tid : Byte) (page total : U16) (data : Bytes),
    exec (.large tid page total data) s =
      .next { s with
        dp := { s.dp with large := some ⟨tid, page, total, data⟩ }, result := .largeMeta ⟨tid, page, total, data⟩ }

/-- R179: any minimum length from 6 to 9 gives the same verdict on every candidate. -/
def Obligations.MinFrameLenSixToNineAgree : Prop :=
  ∀ (m : Nat) (P : Params) (c : Bytes), 6 ≤ m → m ≤ 9 → parseCandidateMin m P c = parseCandidate P c

/-! ### The sequencer and the pass -/

/-- R163: the transition table, row by row, the first row being the start of a pass (R159) that `runPass` takes, the last the
whole of R171; in `Idle` without a start nothing happens, since R163 has no other transition. -/
def Obligations.SequencerFollowsTransitionTable : Prop :=
  ∀ (P : Params) (buf : Bytes) (d : Datapath),
    let N := d.header.payloadLength.toNat
    let crc := computeCrc (slice buf (d.marker + 2) (d.marker + 6 + N))
    let skip (e : Datapath) : Datapath := { e with cursor := e.marker + 1, seqState := .scanning }
    let missing : Datapath := { d with outcome := some .missingBytes }
    let payload := slice buf (d.marker + 6) (d.marker + 6 + N)
    let frame : Frame :=
      { header := d.header
        footer := d.footer
        name := (dispatchPayload P d.header.messageClass d.header.messageId payload).1
        messageType := typeOfClass d.header.messageClass
        format := if 4096 < N then .large else .standard
        data := (dispatchPayload P d.header.messageClass d.header.messageId payload).2
        rawBytes := slice buf d.marker (d.marker + 9 + N)
        large := if 4096 < N then some (largeMetaAt payload) else none }
    (seqStart P buf d = { d with
        lastSyncIndex := findLastSync P buf, cursor := 0, batch := [], diag := [], seqState := .scanning }) ∧
    runPass P buf d = seqRun P buf (passFuel buf) (seqStart P buf d) ∧
    (d.seqState = .scanning → findNextSync P buf d.cursor = none →
      seqStep P buf d = { d with retained := [], seqState := .idle }) ∧
    (d.seqState = .scanning → ∀ m, findNextSync P buf d.cursor = some m →
      seqStep P buf d = { d with
        marker := m, isLast := decide (d.lastSyncIndex = some m), avail := buf.length - m, seqState := .headerCheck }) ∧
    (d.seqState = .headerCheck → d.avail < 9 → d.isLast = true →
      seqStep P buf d = { missing with retained := buf.drop d.marker, seqState := .idle }) ∧
    (d.seqState = .headerCheck → d.avail < 9 → d.isLast = false → seqStep P buf d = skip missing) ∧
    (d.seqState = .headerCheck → 9 ≤ d.avail →
      seqStep P buf d = { d with header := headerAt (buf.drop d.marker), seqState := .lengthCheck }) ∧
    (d.seqState = .lengthCheck → d.avail < 9 + N → d.isLast = true →
      seqStep P buf d = { missing with retained := buf.drop d.marker, seqState := .idle }) ∧
    (d.seqState = .lengthCheck → d.avail < 9 + N → d.isLast = false → seqStep P buf d = skip missing) ∧
    (d.seqState = .lengthCheck → 9 + N ≤ d.avail →
      seqStep P buf d = { d with footer := footerAt (buf.drop d.marker), seqState := .checksumCheck }) ∧
    (d.seqState = .checksumCheck → crc ≠ d.footer.crc →
      seqStep P buf d = skip { d with
        crcAcc := crc, outcome := some .checksumError, diag := d.diag ++ [⟨.checksumError, d.marker⟩] }) ∧
    (d.seqState = .checksumCheck → crc = d.footer.crc →
      seqStep P buf d = { d with crcAcc := crc, seqState := .terminatorCheck }) ∧
    (d.seqState = .terminatorCheck → d.footer.terminator ≠ P.etx →
      seqStep P buf d = skip { d with
        outcome := some .terminatorError, diag := d.diag ++ [⟨.terminatorError, d.marker⟩] }) ∧
    (d.seqState = .terminatorCheck → d.footer.terminator = P.etx → seqStep P buf d = { d with seqState := .decode }) ∧
    (d.seqState = .decode →
      seqStep P buf d = { d with
        isLarge := decide (4096 < N), large := frame.large, outcome := some (.complete frame),
        batch := d.batch ++ [frame], cursor := d.marker + 9 + N, seqState := .scanning }) ∧
    (d.seqState = .idle → seqStep P buf d = d)

/-- R174: running the sequencer from `Idle` to `Idle` over any buffer gives the batch, the retained buffer and the
diagnostic records of the pure pass; `PARSE_PASS` returns them and leaves the architectural state alone. That `PARSE_PASS` on
its own leaves the sequencer's latches and does not write `buf` is the model's inference (DEDUCED, log 22). -/
def Obligations.SequencerRunEqualsParsePass : Prop :=
  ∀ (s : State) (buf : Bytes), ∃ t, exec (.parsePass buf) s = .next t ∧
    t.result = .pass ⟨t.dp.batch, t.dp.retained, t.dp.diag⟩ ∧
    (⟨t.dp.batch, t.dp.retained, t.dp.diag⟩ : PassResult) = parsePass s.params buf ∧
    t.dp.seqState = .idle ∧ SameArch s t

/-- R175: the sequencer reaches `Idle` on every buffer within the model's bound, and more transitions change nothing; the
same for the visits of the pure pass. -/
def Obligations.PassTerminates : Prop :=
  ∀ (P : Params) (buf : Bytes) (d : Datapath) (n : Nat),
    (runPass P buf d).seqState = .idle ∧
    (passFuel buf ≤ n → seqRun P buf n (seqStart P buf d) = runPass P buf d) ∧
    (buf.length + 1 ≤ n → passLoop P buf (findLastSync P buf) n 0 [] [] = parsePass P buf)

/-- R26, R164: during a pass the cursor only grows and never leaves the buffer. -/
def Obligations.CursorGrowsWithinBuffer : Prop :=
  ∀ (P : Params) (buf : Bytes) (d : Datapath) (n : Nat),
    (seqRun P buf n (seqStart P buf d)).cursor ≤ (seqRun P buf (n + 1) (seqStart P buf d)).cursor ∧
    (seqRun P buf n (seqStart P buf d)).cursor ≤ buf.length

/-- R178, R33: every frame of a batch is sound: sync, length, checksum, terminator, and every field as its span gives it. -/
def Obligations.BatchFramesAreSound : Prop :=
  ∀ (P : Params) (buf : Bytes), ∀ f ∈ (parsePass P buf).batch, FrameSound P f

/-- R176, R177: the frames of a pass stand in the buffer at increasing marker indices, with disjoint spans. -/
def Obligations.BatchSpansAreDisjointAndInOrder : Prop :=
  ∀ (P : Params) (buf : Bytes), ∃ l : List (Nat × Frame), l.map Prod.snd = (parsePass P buf).batch ∧
    (∀ x ∈ l, MarkerIndex P buf x.1 ∧ x.1 + x.2.rawBytes.length ≤ buf.length ∧
      x.2.rawBytes = slice buf x.1 (x.1 + x.2.rawBytes.length)) ∧
    l.Pairwise fun x y => x.1 + x.2.rawBytes.length ≤ y.1

/-- R180: a whole frame fed alone yields exactly that frame, nothing retained and no diagnostic record. -/
def Obligations.FrameRoundTripsThroughPass : Prop :=
  ∀ (P : Params) (i c : Byte) (p : Bytes), p.length ≤ 65535 →
    ∃ f, parsePass P (frameBytes P i c p) = ⟨[f], [], []⟩ ∧ f.rawBytes = frameBytes P i c p ∧
      f.header.messageId = i ∧ f.header.messageClass = c ∧ f.header.payloadLength.toNat = p.length

/-- R181: a frame cut into chunks and fed with memory on is queued exactly once, under the three preconditions: the limit
holds the frame, no accumulated prefix has length 1, and no proper prefix has an inner marker. -/
def Obligations.SplitFrameIsReassembled : Prop :=
  ∀ (s : State) (i c : Byte) (p : Bytes) (chunks : List Bytes),
    s.configured = true → s.memory = true → s.buf = [] → s.queue = [] → p.length ≤ 65535 →
    chunks.flatten = frameBytes s.params i c p →
    (frameBytes s.params i c p).length ≤ s.bufferLimit →
    (∀ k, (chunks.take k).flatten.length ≠ 1) →
    (∀ k, (chunks.take k).flatten.length < (frameBytes s.params i c p).length →
      ∀ j, MarkerIndex s.params (chunks.take k).flatten j → j = 0) →
    ∃ t f, runInstrs (chunks.map .addData) s = some t ∧ t.queue = [f] ∧
      f.rawBytes = frameBytes s.params i c p ∧ t.buf = []

/-- R182: two valid frames with marker-free garbage between them are both recovered, in order. -/
def Obligations.GarbageBetweenFramesIsSkipped : Prop :=
  ∀ (P : Params) (i c i' c' : Byte) (p p' g : Bytes), p.length ≤ 65535 → p'.length ≤ 65535 →
    let A := frameBytes P i c p
    let B := frameBytes P i' c' p'
    (∀ j, MarkerIndex P (A ++ g ++ B) j → ¬ (A.length ≤ j ∧ j < A.length + g.length)) →
    ∃ f f', (parsePass P (A ++ g ++ B)).batch = [f, f'] ∧ f.rawBytes = A ∧ f'.rawBytes = B

/-- R183: a frame with one payload byte changed is rejected for its checksum and the valid frame after it is recovered. -/
def Obligations.CorruptedPayloadIsRejected : Prop :=
  ∀ (P : Params) (i c i' c' : Byte) (p p' : Bytes) (k : Nat) (x : Byte), p.length ≤ 65535 → p'.length ≤ 65535 →
    (h : k < p.length) → x ≠ p[k] →
    let A := (frameBytes P i c p).set (6 + k) x
    let B := frameBytes P i' c' p'
    (∀ j, MarkerIndex P (A ++ B) j → ¬ (1 ≤ j ∧ j < A.length)) →
    ∃ f, parsePass P (A ++ B) = ⟨[f], [], [⟨.checksumError, 0⟩]⟩ ∧ f.rawBytes = B

/-- R184, R38 (a): after every `ADD_DATA` the buffer is within the limit; bytes without a marker leave it empty. -/
def Obligations.BufferBoundAfterAddData : Prop :=
  (∀ (s t : State) (chunk : Bytes), s.configured = true → exec (.addData chunk) s = .next t →
    t.buf.length ≤ s.bufferLimit) ∧
  ∀ (P : Params) (buf : Bytes), (∀ j, ¬ MarkerIndex P buf j) → parsePass P buf = ⟨[], [], []⟩

/-- R38 (b): the buffer a pass retains is empty or one incomplete candidate at its only marker. -/
def Obligations.RetainedBufferIsOnePendingCandidate : Prop :=
  ∀ (P : Params) (buf : Bytes), PendingCandidate P (parsePass P buf).retained

/-- R173: `TRIM` keeps the last `bufferLimit` bytes of a longer sequence and any other sequence whole; trimming a pending
candidate cuts off its marker, so what remains has none (R244). -/
def Obligations.TrimKeepsTailAndCutsMarker : Prop :=
  (∀ (s : State) (retained : Bytes) (limit : Nat), ∃ b,
    exec (.trim retained limit) s = .next { s with buf := b } ∧
    (limit < retained.length → b = retained.drop (retained.length - limit) ∧ b.length = limit) ∧
    (retained.length ≤ limit → b = retained)) ∧
  ∀ (P : Params) (retained : Bytes) (limit : Nat), PendingCandidate P retained → limit < retained.length →
    ∀ j, ¬ MarkerIndex P (trimTail retained limit) j

/-! ### Pseudo-operations -/

/-- R91: the expansions of the frame pseudo-operations, and `ADD_FRAME` as `ADD_DATA` of a frame; none of them exists for a
payload of more than 65535 bytes. -/
def Obligations.FramePseudoOperationsExpand : Prop :=
  ∀ (s : State) (i c : Byte) (p : Bytes),
    let len : U16 := BitVec.ofNat 16 p.length
    let head := [s.params.sync0, s.params.sync1, i, c, len.extractLsb' 0 8, len.extractLsb' 8 8] ++ p
    let k := computeCrc ([i, c, len.extractLsb' 0 8, len.extractLsb' 8 8] ++ p)
    let wire (k : U16) (e : Byte) := head ++ [k.extractLsb' 0 8, k.extractLsb' 8 8, e]
    (p.length ≤ 65535 →
      exec (.pseudoFrame i c p) s = .next { s with result := .bytes (wire k s.params.etx) } ∧
      exec (.pseudoFrameBadCrc i c p) s = .next { s with result := .bytes (wire (k ^^^ 0x0001#16) s.params.etx) } ∧
      exec (.pseudoFrameBadEtx i c p) s = .next { s with result := .bytes (wire k (s.params.etx ^^^ 0xFF#8)) } ∧
      ∃ t, exec (.addFrame i c p) s = .next t ∧ exec (.addData (wire k s.params.etx)) s = .next t) ∧
    (65535 < p.length →
      exec (.pseudoFrame i c p) s = .refused .payloadTooLong ∧
      exec (.pseudoFrameBadCrc i c p) s = .refused .payloadTooLong ∧
      exec (.pseudoFrameBadEtx i c p) s = .refused .payloadTooLong ∧
      exec (.addFrame i c p) s = .refused .payloadTooLong)

/-- R92: `LARGE_PAYLOAD` and `REP` expand to their bytes. -/
def Obligations.LargePayloadAndRepExpand : Prop :=
  ∀ (s : State) (tid b : Byte) (page total : U16) (data : Bytes) (k : Nat),
    exec (.largePayload tid page total data) s =
      .next { s with result := .bytes ([tid, page.extractLsb' 0 8, page.extractLsb' 8 8, total.extractLsb' 0 8,
        total.extractLsb' 8 8] ++ data) } ∧
    exec (.rep b k) s = .next { s with result := .bytes (List.replicate k b) }

/-! ### Encodings and the step -/

/-- R84: every well-formed host operation is decoded from its word, and the bytes after the word are left. -/
def Obligations.HostOperationDecodesFromItsWord : Prop :=
  ∀ (P : Params) (i : Instr) (w rest : Bytes), i.format = .hostOp → i.wellFormed = true → encode P i = some w →
    decode (w ++ rest) = .ok (i, rest)

/-- R84: what is decoded is a well-formed host operation whose word stood at the head of the bytes. -/
def Obligations.DecodedHostOperationHasItsWord : Prop :=
  ∀ (P : Params) (bs rest : Bytes) (i : Instr), decode bs = .ok (i, rest) →
    i.format = .hostOp ∧ i.wellFormed = true ∧ ∃ w, encode P i = some w ∧ bs = w ++ rest

/-- R71, R72, R77, R80: a frame, a large payload and a class byte are decoded from their bytes, every operand at every value
its field admits. -/
def Obligations.WireFormatsDecodeFromTheirBytes : Prop :=
  (∀ (P : Params) (i c e : Byte) (p : Bytes) (k : U16) (w rest : Bytes), p.length ≤ 65535 →
    encode P (.frame i c p k e) = some w → decodeFrame P (w ++ rest) = .ok (.frame i c p k e, rest)) ∧
  (∀ (P : Params) (tid : Byte) (page total : U16) (data w : Bytes),
    (Instr.large tid page total data).wellFormed = true → encode P (.large tid page total data) = some w →
    decodeLarge w = .ok (.large tid page total data)) ∧
  (∀ (P : Params) (i : Instr), i.format = .cls → ∃ b, encode P i = some [b] ∧ decodeClass b = i) ∧
  ∀ (P : Params) (b : Byte), encode P (decodeClass b) = some [b] ∧ (decodeClass b).format = .cls

/-- R84, R80: some words of the encoding tables, written out, and what they decode to. -/
def Obligations.WrittenOutWordsDecode : Prop :=
  decode [0x00, 0x01, 0x40, 0x00, 0x00, 0x00] = .ok (.init 0x01 64, []) ∧
  decode [0x01, 0x02, 0x00, 0x00, 0x00, 0xFF, 0x5A] = .ok (.addData [0xFF, 0x5A], []) ∧
  decode [0x02] = .ok (.getFrames, []) ∧
  decode [0x07, 0x02] = .ok (.reservedOp04 3, [0x02]) ∧
  decodeClass 0x10 = .classCommand ∧ decodeClass 0x77 = .classUnknown40 0x37 ∧
  decodeFrame ⟨0xFF, 0x5A, 0x33, []⟩ [0xFF, 0x5A, 0x03, 0x00, 0x04, 0x00, 0x11, 0x22, 0x33, 0x44, 0x0F, 0x6B, 0x33] =
    .ok (.frame 0x03 0x00 [0x11, 0x22, 0x33, 0x44] 0x6B0F 0x33, [])

/-- R2, R63, with the model's step (log 8, log 11): a step with no reset pending runs the decoded operation on the state
whose input is past its word; a pending reset runs first; with no whole word nothing changes. -/
def Obligations.StepRunsDecodedOperation : Prop :=
  ∀ (s : State),
    (s.resetReq = false → ∀ i rest, decode s.input = .ok (i, rest) → step s = exec i { s with input := rest }) ∧
    (s.resetReq = false → ∀ e, decode s.input = .error e → step s = .next s) ∧
    (s.resetReq = true → step s = exec .reset s)

/-- R175, R63, R224: every step from every state ends with a next state: no input stops the block. That no outcome at all
stops it is the model's inference (DEDUCED, log 24); that a step on an unfinished word answers the same state is its choice
(DESIGN CHOICE, log 8). -/
def Obligations.StepAlwaysAnswersNext : Prop :=
  ∀ s : State, ∃ t, step s = .next t

/-- R38 (a), (c), (d) and R30: every step keeps the invariant of the architectural state. -/
def Obligations.StepKeepsArchitecturalBounds : Prop :=
  ∀ s t : State, s.Inv → step s = .next t → t.Inv

/-- R240, R37: reset leaves an unconfigured, empty, idle instance, which meets the invariant. The values of the elements the
spec leaves unspecified (log 4) are not stated. -/
def Obligations.ResetStateIsEmptyAndIdle : Prop :=
  State.reset.configured = false ∧ State.reset.buf = [] ∧ State.reset.queue = [] ∧
  State.reset.dp.seqState = .idle ∧ State.reset.Inv

/-- R240: the reset event has the effect of reset on any state; the host's side (log 8, 9) and the parameters stay. -/
def Obligations.ResetEventEmptiesInstance : Prop :=
  ∀ s : State, ∃ t, exec .reset s = .next t ∧
    t.configured = false ∧ t.buf = [] ∧ t.queue = [] ∧ t.dp.seqState = .idle ∧ t.resetReq = false ∧
    t.params = s.params ∧ t.input = s.input ∧ t.responses = s.responses ∧ t.result = s.result

/-! ### Whole-machine rules -/

/-- R30, R190: only `INIT` and reset write the control fields; no instruction writes the parameters (R242). -/
def Obligations.OnlyInitAndResetChangeConfiguration : Prop :=
  ∀ (i : Instr) (s t : State), exec i s = .next t →
    t.params = s.params ∧
    ((∀ m L, i ≠ .init m L) → i ≠ .reset →
      t.configured = s.configured ∧ t.memory = s.memory ∧ t.bufferLimit = s.bufferLimit)

/-- R20, R36, R50: an instruction that is neither a host operation, `ADD_FRAME`, `TRIM` nor reset leaves the architectural
state, every byte of memory and the host's interface alone. -/
def Obligations.MicroOperationsLeaveArchitectureAlone : Prop :=
  ∀ (i : Instr) (s t : State), exec i s = .next t → i.format ≠ .hostOp → i ≠ .reset →
    (∀ a b c, i ≠ .addFrame a b c) → (∀ r L, i ≠ .trim r L) →
    SameArch s t ∧ ∀ a, Memory.read t.mem a = Memory.read s.mem a

/-- R50, R55: the memory view reads the buffer byte at each of its indices and nothing elsewhere. The view itself, and that an
address beyond the buffer reads as no value, are the model's choice (DESIGN CHOICE, log 21). -/
def Obligations.MemoryReadIsBufferByte : Prop :=
  ∀ (s : State) (a : Nat), Memory.read s.mem a = s.buf[a]?
end

