-- ==== Sys2Proof/Laws/Crc.lean ====
section
/-!
SUPPORT. One iteration of the CRC step (40_crc_engine R102): it is linear over exclusive-or and loses nothing.
-/

namespace Sys2Proof.Machine

open Sys2Proof

/-- The iterations as an iterated function. -/
theorem crcShifts_eq_iterate (n : Nat) (c : U16) : crcShifts n c = crcShift^[n] c := by
  induction n generalizing c with
  | zero => rfl
  | succ n ih => rw [crcShifts, ih, Function.iterate_succ_apply]

/-- One iteration is linear. -/
theorem crcShift_xor (x y : U16) : crcShift (x ^^^ y) = crcShift x ^^^ crcShift y := by
  simp only [crcShift, BitVec.getLsbD_xor, Config.crcPoly, BitVec.ushiftRight_xor_distrib]
  cases x.getLsbD 0 <;> cases y.getLsbD 0 <;> simp
  · rw [BitVec.xor_assoc]
  · rw [BitVec.xor_assoc, BitVec.xor_assoc, BitVec.xor_comm (33800#16)]
  · rw [BitVec.xor_assoc, BitVec.xor_comm (33800#16), BitVec.xor_assoc, BitVec.xor_self]
    simp

theorem crcShifts_xor (n : Nat) (x y : U16) : crcShifts n (x ^^^ y) = crcShifts n x ^^^ crcShifts n y := by
  induction n generalizing x y with
  | zero => rfl
  | succ n ih => simp only [crcShifts, crcShift_xor, ih]

/-- One iteration maps only zero to zero: the polynomial's bit 15 is set, and a shift sets it never. -/
theorem crcShift_eq_zero {c : U16} (h : crcShift c = 0#16) : c = 0#16 := by
  simp only [crcShift] at h
  cases hb : c.getLsbD 0 with
  | true =>
    rw [hb] at h
    have := congrArg (fun z => BitVec.getLsbD z 15) h
    simp [Config.crcPoly] at this
  | false =>
    rw [hb] at h
    apply BitVec.eq_of_getLsbD_eq
    intro i hi
    cases i with
    | zero => rw [hb]; simp
    | succ i =>
      have := congrArg (fun z => BitVec.getLsbD z i) h
      simp at this
      rw [Nat.add_comm] at this
      simpa using this

/-- Iterations are injective. -/
theorem crcShifts_injective (n : Nat) {x y : U16} (h : crcShifts n x = crcShifts n y) : x = y := by
  have key : ∀ (n : Nat) (c : U16), crcShifts n c = 0#16 → c = 0#16 := by
    intro n
    induction n with
    | zero => exact fun _ h => h
    | succ n ih => exact fun c h => crcShift_eq_zero (ih _ h)
  exact BitVec.xor_eq_zero_iff.1 (key n _ (by rw [crcShifts_xor, h, BitVec.xor_self]))

/-- While the low bits are zero an iteration is a shift. -/
theorem crcShifts_of_low_zero {n : Nat} (hn : n ≤ 8) {c : U16} (h : ∀ i < 8, c.getLsbD i = false) :
    crcShifts n c = c >>> n := by
  rw [crcShifts_eq_iterate]
  induction n with
  | zero => simp
  | succ n ih =>
    rw [Function.iterate_succ_apply', ih (by omega), crcShift, if_neg (by simp [h n (by omega)]),
      ← BitVec.shiftRight_add]

end Sys2Proof.Machine
end

