-- ==== Sys2Proof/Laws/Operands.lean ====
section
/-!
SUPPORT. The operand forms: what the reads and the field encoders give (00_scope R8, R9; 20_memory R52).
-/

namespace Sys2Proof.Machine

open Sys2Proof

@[simp] theorem slice_length (b : Bytes) (i j : Nat) : (slice b i j).length = min (j - i) (b.length - i) := by
  simp [slice]

@[simp] theorem slice_zero_length (b : Bytes) : slice b 0 b.length = b := by simp [slice]

theorem byteAt_eq_getElem (b : Bytes) {i : Nat} (h : i < b.length) : byteAt b i = b[i] := by
  simp [byteAt, h]

theorem byteAt_drop (b : Bytes) (k i : Nat) : byteAt (b.drop k) i = byteAt b (k + i) := by
  simp [byteAt, List.getD_eq_getElem?_getD]

theorem byteAt_append_left (a b : Bytes) {i : Nat} (h : i < a.length) : byteAt (a ++ b) i = byteAt a i := by
  simp [byteAt, List.getD_eq_getElem?_getD, List.getElem?_append, h]

theorem byteAt_append_right (a b : Bytes) (i : Nat) : byteAt (a ++ b) (a.length + i) = byteAt b i := by
  simp [byteAt, List.getD_eq_getElem?_getD, List.getElem?_append]

theorem byteAt_slice (b : Bytes) {i j k : Nat} (h : k < j - i) : byteAt (slice b i j) k = byteAt b (i + k) := by
  simp [slice, byteAt, List.getD_eq_getElem?_getD, h]

theorem le16_drop (b : Bytes) (k i : Nat) : le16 (b.drop k) i = le16 b (k + i) := by
  simp [le16, byteAt_drop, Nat.add_assoc]

theorem le16_append_left (a b : Bytes) {i : Nat} (h : i + 1 < a.length) : le16 (a ++ b) i = le16 a i := by
  simp [le16, byteAt_append_left a b h, byteAt_append_left a b (Nat.lt_of_succ_lt h)]

theorem le16_append_right (a b : Bytes) (i : Nat) : le16 (a ++ b) (a.length + i) = le16 b i := by
  simp [le16, byteAt_append_right, Nat.add_assoc]

theorem le16_slice (b : Bytes) {i j k : Nat} (h : k + 1 < j - i) : le16 (slice b i j) k = le16 b (i + k) := by
  simp [le16, byteAt_slice b h, byteAt_slice b (Nat.lt_of_succ_lt h), Nat.add_assoc]

theorem slice_drop (b : Bytes) (k i j : Nat) : slice (b.drop k) i j = slice b (k + i) (k + j) := by
  simp only [slice, List.drop_drop]
  congr 1
  omega

theorem slice_slice (b : Bytes) {i j k l : Nat} (h : l ≤ j - i) : slice (slice b i j) k l = slice b (i + k) (i + l) := by
  simp only [slice, List.drop_take, List.drop_drop, List.take_take]
  congr 1
  omega

theorem slice_append_left (a b : Bytes) {i j : Nat} (h : j ≤ a.length) : slice (a ++ b) i j = slice a i j := by
  unfold slice
  by_cases hi : i ≤ a.length
  · rw [List.drop_append_of_le_length hi, List.take_append_of_le_length (by simp; omega)]
  · simp [show j - i = 0 by omega]

theorem slice_append_right (a b : Bytes) (i j : Nat) : slice (a ++ b) (a.length + i) (a.length + j) = slice b i j := by
  simp only [slice, List.drop_length_add_append]
  congr 1
  omega

/-- R9: the byte at the lower index is the less significant. -/
theorem le16_toNat (b : Bytes) (i : Nat) : (le16 b i).toNat = (byteAt b i).toNat + 256 * (byteAt b (i + 1)).toNat := by
  have := (byteAt b i).isLt
  simp only [le16, BitVec.toNat_append]
  rw [Nat.shiftLeft_eq, Nat.mul_comm, ← Nat.two_pow_add_eq_or_of_lt this]
  omega

@[simp] theorem u16Bytes_length (v : U16) : (u16Bytes v).length = 2 := rfl

@[simp] theorem nat32Bytes_length (n : Nat) : (nat32Bytes n).length = 4 := rfl

/-- A 16-bit field written in wire order is read back (R52). -/
theorem u16Bytes_join (v : U16) : (v.extractLsb' 8 8 ++ v.extractLsb' 0 8 : U16) = v := by
  ext i hi
  simp only [BitVec.getElem_append, BitVec.getElem_extractLsb']
  split
  · simp; rw [BitVec.getLsbD_eq_getElem (by omega)]
  · simp; rw [BitVec.getLsbD_eq_getElem (by omega)]; congr 1; omega

theorem le16_u16Bytes (v : U16) (rest : Bytes) : le16 (u16Bytes v ++ rest) 0 = v := by
  simpa [le16, byteAt, u16Bytes] using u16Bytes_join v

/-- A 4-byte operand is read back (R84). -/
theorem le32_nat32Bytes {n : Nat} (h : n ≤ Config.maxOperand32) (rest : Bytes) : le32 (nat32Bytes n ++ rest) 0 = n := by
  simp only [Config.maxOperand32] at h
  simp [le32, nat32Bytes, byteAt]
  omega

end Sys2Proof.Machine
end

