-- ==== Sys2Proof/Laws/Search.lean ====
section
/-!
SUPPORT. The marker search (44_frame_assembler R157, R158): what the two scans over a sequence answer.
-/

namespace Sys2Proof.Machine

open Sys2Proof

theorem isMarker_iff (P : Params) (a b : Byte) : isMarker P a b = true ↔ a = P.sync0 ∧ b = P.sync1 := by
  simp [isMarker]

theorem markerIndex_zero (P : Params) (a b : Byte) (rest : Bytes) :
    MarkerIndex P (a :: b :: rest) 0 ↔ isMarker P a b = true := by
  simp [MarkerIndex, isMarker_iff, byteAt]

theorem markerIndex_succ (P : Params) (a : Byte) (rest : Bytes) (i : Nat) :
    MarkerIndex P (a :: rest) (i + 1) ↔ MarkerIndex P rest i := by
  simp [MarkerIndex, byteAt]

theorem not_markerIndex_short (P : Params) (b : Bytes) (h : b.length < 2) (i : Nat) : ¬ MarkerIndex P b i := by
  rintro ⟨hi, -⟩
  omega

theorem markerIndex_drop (P : Params) (b : Bytes) (k i : Nat) : MarkerIndex P (b.drop k) i ↔ MarkerIndex P b (k + i) := by
  simp only [MarkerIndex, byteAt_drop, List.length_drop, Nat.add_assoc]
  constructor <;> rintro ⟨h, h'⟩ <;> exact ⟨by omega, h'⟩

/-- A marker of an initial part is a marker of the whole. -/
theorem MarkerIndex.append {P : Params} {a : Bytes} (b : Bytes) {i : Nat} (h : MarkerIndex P a i) :
    MarkerIndex P (a ++ b) i := by
  obtain ⟨h1, h2, h3⟩ := h
  exact ⟨by simp; omega, by rw [byteAt_append_left _ _ (by omega)]; exact h2,
    by rw [byteAt_append_left _ _ (by omega)]; exact h3⟩

/-- The forward scan answers the least marker. -/
theorem firstMarker_eq_some (P : Params) (b : Bytes) (i m : Nat) :
    firstMarker P b i = some m ↔ ∃ k, m = i + k ∧ MarkerIndex P b k ∧ ∀ j, MarkerIndex P b j → k ≤ j := by
  induction b generalizing i with
  | nil => simp [firstMarker, MarkerIndex]
  | cons a t ih =>
    cases t with
    | nil => simp [firstMarker, MarkerIndex]
    | cons b rest =>
      rw [firstMarker]
      split
      · rename_i hm
        constructor
        · intro h
          exact ⟨0, by simpa using h.symm, (markerIndex_zero P a b rest).2 hm, fun _ _ => Nat.zero_le _⟩
        · rintro ⟨k, rfl, -, hk⟩
          have := hk 0 ((markerIndex_zero P a b rest).2 hm)
          simp [Nat.le_zero.1 this]
      · rename_i hm
        rw [ih]
        constructor
        · rintro ⟨k, rfl, hk, hl⟩
          refine ⟨k + 1, by omega, (markerIndex_succ P a _ k).2 hk, ?_⟩
          rintro (_ | j) hj
          · exact absurd ((markerIndex_zero P a b rest).1 hj) hm
          · have := hl j ((markerIndex_succ P a _ j).1 hj)
            omega
        · rintro ⟨k, rfl, hk, hl⟩
          obtain _ | k := k
          · exact absurd ((markerIndex_zero P a b rest).1 hk) hm
          · refine ⟨k, by omega, (markerIndex_succ P a _ k).1 hk, fun j hj => ?_⟩
            have := hl (j + 1) ((markerIndex_succ P a _ j).2 hj)
            omega

/-- The forward scan answers none exactly where there is no marker. -/
theorem firstMarker_eq_none (P : Params) (b : Bytes) (i : Nat) :
    firstMarker P b i = none ↔ ∀ j, ¬ MarkerIndex P b j := by
  induction b generalizing i with
  | nil => simp [firstMarker, MarkerIndex]
  | cons a t ih =>
    cases t with
    | nil => simp [firstMarker, MarkerIndex]
    | cons b rest =>
      rw [firstMarker]
      split
      · rename_i hm
        simp only [reduceCtorEq, false_iff, not_forall, not_not]
        exact ⟨0, (markerIndex_zero P a b rest).2 hm⟩
      · rename_i hm
        rw [ih]
        constructor
        · rintro h (_ | j) hj
          · exact hm ((markerIndex_zero P a b rest).1 hj)
          · exact h j ((markerIndex_succ P a _ j).1 hj)
        · exact fun h j hj => h (j + 1) ((markerIndex_succ P a _ j).2 hj)

/-- The backward scan answers none exactly where there is no marker. -/
theorem lastMarker_eq_none (P : Params) (b : Bytes) (i : Nat) :
    lastMarker P b i = none ↔ ∀ j, ¬ MarkerIndex P b j := by
  induction b generalizing i with
  | nil => simp [lastMarker, MarkerIndex]
  | cons a t ih =>
    cases t with
    | nil => simp [lastMarker, MarkerIndex]
    | cons b rest =>
      rw [lastMarker]
      split
      · rename_i j hj
        simp only [reduceCtorEq, false_iff, not_forall, not_not]
        have hne : ¬ ∀ j, ¬ MarkerIndex P (b :: rest) j := fun h => by
          rw [(ih (i + 1)).2 h] at hj
          cases hj
        simp only [not_forall, not_not] at hne
        obtain ⟨k, hk⟩ := hne
        exact ⟨k + 1, (markerIndex_succ P a _ k).2 hk⟩
      · rename_i hn
        have hn := (ih (i + 1)).1 hn
        split
        · rename_i hm
          simp only [reduceCtorEq, false_iff, not_forall, not_not]
          exact ⟨0, (markerIndex_zero P a b rest).2 hm⟩
        · rename_i hm
          simp only [true_iff]
          rintro (_ | j) hj
          · exact hm ((markerIndex_zero P a b rest).1 hj)
          · exact hn j ((markerIndex_succ P a _ j).1 hj)

/-- The backward scan answers the greatest marker. -/
theorem lastMarker_eq_some (P : Params) (b : Bytes) (i m : Nat) (h : lastMarker P b i = some m) :
    ∃ k, m = i + k ∧ MarkerIndex P b k ∧ ∀ j, MarkerIndex P b j → j ≤ k := by
  induction b generalizing i with
  | nil => simp [lastMarker] at h
  | cons a t ih =>
    cases t with
    | nil => simp [lastMarker] at h
    | cons b rest =>
      rw [lastMarker] at h
      split at h
      · rename_i j hj
        cases h
        obtain ⟨k, rfl, hk, hl⟩ := ih _ hj
        refine ⟨k + 1, by omega, (markerIndex_succ P a _ k).2 hk, ?_⟩
        rintro (_ | j) hj
        · omega
        · have := hl j ((markerIndex_succ P a _ j).1 hj)
          omega
      · rename_i hn
        have hnone := (lastMarker_eq_none P _ _).1 hn
        split at h
        · rename_i hm
          cases h
          refine ⟨0, rfl, (markerIndex_zero P a b rest).2 hm, ?_⟩
          rintro (_ | j) hj
          · omega
          · exact absurd ((markerIndex_succ P a _ j).1 hj) (hnone j)
        · cases h

end Sys2Proof.Machine
end

