-- ==== Sys2Proof/Laws/Sequencer.lean ====
section
/-!
SUPPORT. The sequencer (44_frame_assembler R159 to R171): its run as an iteration, the codecs under their preconditions, and
what one visit of a candidate does.
-/

namespace Sys2Proof.Machine

open Sys2Proof

/-! ### The codecs -/

theorem readHeader_eq_some (b : Bytes) (h : 6 ≤ b.length) : readHeader b = some (headerAt b) := by
  simp [readHeader, Config.headerLen, Nat.not_lt.2 h]

theorem readFooter_eq_some (b : Bytes) (h : 9 + declaredLength b ≤ b.length) : readFooter b = some (footerAt b) := by
  simp [readFooter, footerReadable, h]

@[simp] theorem headerAt_payloadLength (b : Bytes) : (headerAt b).payloadLength.toNat = declaredLength b := rfl

@[simp] theorem buildFrame_rawBytes (P : Params) (h : Header) (f : Footer) (p r : Bytes) :
    (buildFrame P h f p r).rawBytes = r := rfl

/-- The verdict, one equation for each of the tests in their order (R162, R220). -/
theorem parseCandidate_eq (P : Params) (c : Bytes) :
    parseCandidate P c =
      if c.length < 9 then .missingBytes
      else if c.length < 9 + declaredLength c then .missingBytes
      else if computeCrc (slice c 2 (6 + declaredLength c)) ≠ (footerAt c).crc then .checksumError
      else if (footerAt c).terminator ≠ P.etx then .terminatorError
      else .complete (buildFrame P (headerAt c) (footerAt c) (slice c 6 (6 + declaredLength c))
        (slice c 0 (9 + declaredLength c))) := rfl

/-! ### The search from a cursor -/

theorem findNextSync_eq_some (P : Params) (b : Bytes) (c m : Nat) :
    findNextSync P b c = some m ↔ c ≤ m ∧ MarkerIndex P b m ∧ ∀ j, c ≤ j → MarkerIndex P b j → m ≤ j := by
  rw [findNextSync, firstMarker_eq_some]
  simp only [markerIndex_drop]
  constructor
  · rintro ⟨k, rfl, hk, hl⟩
    refine ⟨by omega, hk, fun j hj hm => ?_⟩
    obtain ⟨i, rfl⟩ := Nat.exists_eq_add_of_le hj
    have := hl i hm
    omega
  · rintro ⟨hc, hm, hl⟩
    obtain ⟨k, rfl⟩ := Nat.exists_eq_add_of_le hc
    refine ⟨k, rfl, hm, fun j hj => ?_⟩
    have := hl (c + j) (by omega) hj
    omega

theorem findNextSync_eq_none (P : Params) (b : Bytes) (c : Nat) :
    findNextSync P b c = none ↔ ∀ j, c ≤ j → ¬ MarkerIndex P b j := by
  rw [findNextSync, firstMarker_eq_none]
  simp only [markerIndex_drop]
  constructor
  · intro h j hj
    obtain ⟨i, rfl⟩ := Nat.exists_eq_add_of_le hj
    exact h i
  · exact fun h j => h (c + j) (by omega)

/-! ### Runs -/

@[simp] theorem seqStep_idle (P : Params) (buf : Bytes) (d : Datapath) (h : d.seqState = .idle) :
    seqStep P buf d = d := by
  simp [seqStep, h]

theorem iterate_idle (P : Params) (buf : Bytes) (d : Datapath) (h : d.seqState = .idle) (n : Nat) :
    (seqStep P buf)^[n] d = d := by
  induction n with
  | zero => rfl
  | succ n ih => rw [Function.iterate_succ_apply, seqStep_idle _ _ _ h, ih]

/-- A run is the iterated transition: a step in `Idle` changes nothing. -/
theorem seqRun_eq_iterate (P : Params) (buf : Bytes) (n : Nat) (d : Datapath) :
    seqRun P buf n d = (seqStep P buf)^[n] d := by
  induction n generalizing d with
  | zero => rfl
  | succ n ih =>
    rw [seqRun]
    split
    · rename_i h
      exact (iterate_idle P buf d h _).symm
    · rw [ih, Function.iterate_succ_apply]

/-! ### One visit -/

/-- `Scanning` with a marker ahead (R160). -/
theorem seqStep_scanning_some (P : Params) (buf : Bytes) (d : Datapath) (m : Nat) (h : d.seqState = .scanning)
    (hm : findNextSync P buf d.cursor = some m) :
    seqStep P buf d =
      { d with
        marker := m
        isLast := isLastFlag m d.lastSyncIndex
        avail := buf.length - m
        seqState := .headerCheck } := by
  simp [seqStep, h, seqScanning, hm]

/-- `Scanning` with no marker ahead (R160). -/
theorem seqStep_scanning_none (P : Params) (buf : Bytes) (d : Datapath) (h : d.seqState = .scanning)
    (hm : findNextSync P buf d.cursor = none) :
    seqStep P buf d = { d with retained := [], seqState := .idle } := by
  simp [seqStep, h, seqScanning, hm]

/-- What the sequencer has done once it leaves a candidate at `m` with the verdict `v` (R161, R170, R171): stopped with the
retained buffer, or back in `Scanning` with the cursor, the batch and the diagnostic records of the verdict. -/
def VisitDone (buf : Bytes) (m : Nat) (d e : Datapath) (v : ParsingOutcome) : Prop :=
  e.outcome = some v ∧ e.lastSyncIndex = d.lastSyncIndex ∧
  match v with
  | .missingBytes =>
      e.batch = d.batch ∧ e.diag = d.diag ∧
        if d.lastSyncIndex = some m then e.seqState = .idle ∧ e.retained = buf.drop m
        else e.seqState = .scanning ∧ e.cursor = m + 1
  | .checksumError =>
      e.batch = d.batch ∧ e.diag = d.diag ++ [⟨.checksumError, m⟩] ∧ e.seqState = .scanning ∧ e.cursor = m + 1
  | .terminatorError =>
      e.batch = d.batch ∧ e.diag = d.diag ++ [⟨.terminatorError, m⟩] ∧ e.seqState = .scanning ∧ e.cursor = m + 1
  | .complete f =>
      e.batch = d.batch ++ [f] ∧ e.diag = d.diag ∧ e.seqState = .scanning ∧ e.cursor = m + f.rawBytes.length

/-- One visit: from `Scanning` with the next marker at `m`, the sequencer is done with the candidate after at most six
transitions, with the verdict of `PARSE_CANDIDATE` on it. -/
theorem seqStep_visit (P : Params) (buf : Bytes) (d : Datapath) (m : Nat) (h : d.seqState = .scanning)
    (hm : findNextSync P buf d.cursor = some m) :
    ∃ k, 1 ≤ k ∧ k ≤ 6 ∧
      VisitDone buf m d ((seqStep P buf)^[k] d) (parseCandidate P (buf.drop m)) := by
  have hlen : (buf.drop m).length = buf.length - m := List.length_drop
  have h1 := seqStep_scanning_some P buf d m h hm
  by_cases hshort : buf.length - m < 9
  · have hv : parseCandidate P (buf.drop m) = .missingBytes := by simp [parseCandidate_eq, hlen, hshort]
    refine ⟨2, by omega, by omega, ?_⟩
    rw [Function.iterate_succ_apply, Function.iterate_succ_apply, Function.iterate_zero_apply, h1, hv]
    by_cases hl : d.lastSyncIndex = some m <;>
      simp [seqStep, seqHeaderCheck, Config.minFrameLen, hshort, incompleteCandidate, isLastFlag, hl, VisitDone]
  by_cases hdecl : buf.length - m < 9 + declaredLength (buf.drop m)
  · have hv : parseCandidate P (buf.drop m) = .missingBytes := by simp [parseCandidate_eq, hlen, hshort, hdecl]
    have hd : buf.length - m < 6 + declaredLength (buf.drop m) + 3 := by omega
    refine ⟨3, by omega, by omega, ?_⟩
    rw [Function.iterate_succ_apply, Function.iterate_succ_apply, Function.iterate_succ_apply,
      Function.iterate_zero_apply, h1, hv]
    by_cases hl : d.lastSyncIndex = some m <;>
      simp [seqStep, seqHeaderCheck, seqLengthCheck, Config.minFrameLen, Config.headerLen, Config.footerLen, hshort, hd,
        incompleteCandidate, isLastFlag, hl, VisitDone]
  have hd : ¬ buf.length - m < 6 + declaredLength (buf.drop m) + 3 := by omega
  have hbody : slice (buf.drop m) 2 (6 + declaredLength (buf.drop m)) =
      slice buf (m + 2) (m + 6 + declaredLength (buf.drop m)) := by rw [slice_drop, ← Nat.add_assoc]
  by_cases hcrc : computeCrc (slice buf (m + 2) (m + 6 + declaredLength (buf.drop m))) = (footerAt (buf.drop m)).crc
  swap
  · have hv : parseCandidate P (buf.drop m) = .checksumError := by
      simp [parseCandidate_eq, hlen, hshort, hdecl, hbody, hcrc]
    refine ⟨4, by omega, by omega, ?_⟩
    rw [Function.iterate_succ_apply, Function.iterate_succ_apply, Function.iterate_succ_apply,
      Function.iterate_succ_apply, Function.iterate_zero_apply, h1, hv]
    simp [seqStep, seqHeaderCheck, seqLengthCheck, seqChecksumCheck, Config.minFrameLen, Config.headerLen,
      Config.footerLen, hshort, hd, hcrc, rejectCandidate, VisitDone]
  by_cases hetx : (footerAt (buf.drop m)).terminator = P.etx
  swap
  · have hv : parseCandidate P (buf.drop m) = .terminatorError := by
      simp [parseCandidate_eq, hlen, hshort, hdecl, hbody, hcrc, hetx]
    refine ⟨5, by omega, by omega, ?_⟩
    rw [Function.iterate_succ_apply, Function.iterate_succ_apply, Function.iterate_succ_apply,
      Function.iterate_succ_apply, Function.iterate_succ_apply, Function.iterate_zero_apply, h1, hv]
    simp [seqStep, seqHeaderCheck, seqLengthCheck, seqChecksumCheck, seqTerminatorCheck, Config.minFrameLen,
      Config.headerLen, Config.footerLen, hshort, hd, hcrc, hetx, rejectCandidate, VisitDone]
  · have hv : parseCandidate P (buf.drop m) = .complete
        (buildFrame P (headerAt (buf.drop m)) (footerAt (buf.drop m))
          (slice buf (m + 6) (m + 6 + declaredLength (buf.drop m)))
          (slice buf m (m + 9 + declaredLength (buf.drop m)))) := by
      rw [parseCandidate_eq, hlen, hbody, if_neg hshort, if_neg hdecl, if_neg (not_not_intro hcrc),
        if_neg (not_not_intro hetx), slice_drop, slice_drop]
      simp only [Nat.add_zero, Nat.add_assoc]
    refine ⟨6, by omega, by omega, ?_⟩
    rw [Function.iterate_succ_apply, Function.iterate_succ_apply, Function.iterate_succ_apply,
      Function.iterate_succ_apply, Function.iterate_succ_apply, Function.iterate_succ_apply,
      Function.iterate_zero_apply, h1, hv]
    simp [seqStep, seqHeaderCheck, seqLengthCheck, seqChecksumCheck, seqTerminatorCheck, seqDecode, Config.minFrameLen,
      Config.headerLen, Config.footerLen, hshort, hd, hcrc, hetx, VisitDone]
    omega

end Sys2Proof.Machine
end

