-- ==== Sys2Proof/Laws/Frame.lean ====
section
/-!
SUPPORT. The bytes of a frame on the wire (30_encoding R71, R72, R75), field by field, whatever stands after them; and what a
verdict says of a candidate (44_frame_assembler R162).
-/

namespace Sys2Proof.Machine

open Sys2Proof

/-! ### The fields of a frame -/

@[simp] theorem frameBody_length (i c : Byte) (p : Bytes) : (frameBody i c p).length = 4 + p.length := by
  simp [frameBody]
  omega

@[simp] theorem frameWire_length (P : Params) (i c : Byte) (p : Bytes) (k : U16) (e : Byte) :
    (frameWire P i c p k e).length = 9 + p.length := by
  simp [frameWire]
  omega

/-- A frame's bytes are the sync marker, the covered bytes, the CRC field and the terminator. -/
theorem frameWire_eq_body (P : Params) (i c : Byte) (p : Bytes) (k : U16) (e : Byte) :
    frameWire P i c p k e = [P.sync0, P.sync1] ++ frameBody i c p ++ u16Bytes k ++ [e] := by
  simp [frameWire, frameBody]

/-- The sync marker stands at index 0. -/
theorem frameWire_marker (P : Params) (i c : Byte) (p : Bytes) (k : U16) (e : Byte) (rest : Bytes) :
    MarkerIndex P (frameWire P i c p k e ++ rest) 0 := by
  refine ⟨?_, rfl, rfl⟩
  rw [List.length_append, frameWire_length]
  omega

/-- The length field holds the payload's length, if 16 bits hold it (R73). -/
theorem frameWire_declaredLength (P : Params) (i c : Byte) (p : Bytes) (k : U16) (e : Byte) (rest : Bytes)
    (h : p.length ≤ 65535) : declaredLength (frameWire P i c p k e ++ rest) = p.length := by
  have hs : frameWire P i c p k e ++ rest =
      [P.sync0, P.sync1, i, c] ++ (u16Bytes (BitVec.ofNat 16 p.length) ++ (p ++ u16Bytes k ++ [e] ++ rest)) := by
    simp [frameWire]
  have hr := le16_append_right [P.sync0, P.sync1, i, c]
    (u16Bytes (BitVec.ofNat 16 p.length) ++ (p ++ u16Bytes k ++ [e] ++ rest)) 0
  simp only [List.length_cons, List.length_nil] at hr
  rw [declaredLength, hs, hr, le16_u16Bytes]
  simp
  omega

/-- The covered bytes stand at offsets 2 to `6 + N` (R75). -/
theorem frameWire_body (P : Params) (i c : Byte) (p : Bytes) (k : U16) (e : Byte) (rest : Bytes) :
    slice (frameWire P i c p k e ++ rest) 2 (6 + p.length) = frameBody i c p := by
  have hs : frameWire P i c p k e ++ rest = [P.sync0, P.sync1] ++ (frameBody i c p ++ (u16Bytes k ++ [e] ++ rest)) := by
    simp [frameWire, frameBody]
  have hr := slice_append_right [P.sync0, P.sync1] (frameBody i c p ++ (u16Bytes k ++ [e] ++ rest)) 0 (4 + p.length)
  simp only [List.length_cons, List.length_nil] at hr
  rw [hs, show 6 + p.length = 0 + 1 + 1 + (4 + p.length) by omega, hr, slice_append_left _ _ (by simp),
    ← frameBody_length i c p, slice_zero_length]

/-- The payload stands at offsets 6 to `6 + N` (R72). -/
theorem frameWire_payload (P : Params) (i c : Byte) (p : Bytes) (k : U16) (e : Byte) (rest : Bytes) :
    slice (frameWire P i c p k e ++ rest) 6 (6 + p.length) = p := by
  have hs : frameWire P i c p k e ++ rest =
      ([P.sync0, P.sync1, i, c] ++ u16Bytes (BitVec.ofNat 16 p.length)) ++ (p ++ (u16Bytes k ++ [e] ++ rest)) := by
    simp [frameWire]
  have hr := slice_append_right ([P.sync0, P.sync1, i, c] ++ u16Bytes (BitVec.ofNat 16 p.length))
    (p ++ (u16Bytes k ++ [e] ++ rest)) 0 p.length
  rw [hs]
  refine hr.trans ?_
  rw [slice_append_left _ _ (Nat.le_refl _), slice_zero_length]

/-- The CRC field stands at offset `6 + N` (R74). -/
theorem frameWire_crc (P : Params) (i c : Byte) (p : Bytes) (k : U16) (e : Byte) (rest : Bytes) :
    le16 (frameWire P i c p k e ++ rest) (6 + p.length) = k := by
  have hs : frameWire P i c p k e ++ rest = ([P.sync0, P.sync1] ++ frameBody i c p) ++ (u16Bytes k ++ ([e] ++ rest)) := by
    simp [frameWire, frameBody]
  have hl : ([P.sync0, P.sync1] ++ frameBody i c p).length = 6 + p.length := by
    simp
    omega
  have hr := le16_append_right ([P.sync0, P.sync1] ++ frameBody i c p) (u16Bytes k ++ ([e] ++ rest)) 0
  rw [Nat.add_zero, hl] at hr
  rw [hs, hr, le16_u16Bytes]

/-- The terminator stands at offset `8 + N` (R72). -/
theorem frameWire_terminator (P : Params) (i c : Byte) (p : Bytes) (k : U16) (e : Byte) (rest : Bytes) :
    byteAt (frameWire P i c p k e ++ rest) (8 + p.length) = e := by
  have hs : frameWire P i c p k e ++ rest = ([P.sync0, P.sync1] ++ frameBody i c p ++ u16Bytes k) ++ ([e] ++ rest) := by
    simp [frameWire, frameBody]
  have hl : ([P.sync0, P.sync1] ++ frameBody i c p ++ u16Bytes k).length = 8 + p.length := by
    simp
    omega
  have hr := byteAt_append_right ([P.sync0, P.sync1] ++ frameBody i c p ++ u16Bytes k) ([e] ++ rest) 0
  rw [Nat.add_zero, hl] at hr
  rw [hs, hr]
  rfl

/-! ### What a verdict says -/

/-- `Complete`: the candidate is whole, its checksum and terminator match, and the frame is the one its fields give. -/
theorem parseCandidate_eq_complete {P : Params} {c : Bytes} {f : Frame} (h : parseCandidate P c = .complete f) :
    9 + declaredLength c ≤ c.length ∧ computeCrc (slice c 2 (6 + declaredLength c)) = (footerAt c).crc ∧
    (footerAt c).terminator = P.etx ∧
    f = buildFrame P (headerAt c) (footerAt c) (slice c 6 (6 + declaredLength c)) (slice c 0 (9 + declaredLength c)) := by
  rw [parseCandidate_eq] at h
  split at h
  · cases h
  split at h
  · cases h
  split at h
  · cases h
  split at h
  · cases h
  rename_i h1 h2 h3 h4
  cases h
  exact ⟨Nat.not_lt.1 h2, not_not.1 h3, not_not.1 h4, rfl⟩

/-- `MissingBytes`: the candidate is shorter than any frame or than its declared length. -/
theorem parseCandidate_eq_missing (P : Params) (c : Bytes) :
    parseCandidate P c = .missingBytes ↔ c.length < 9 + declaredLength c := by
  rw [parseCandidate_eq]
  constructor
  · intro h
    by_contra hc
    rw [if_neg (by omega), if_neg hc] at h
    repeat' split at h
    all_goals cases h
  · intro h
    rw [if_pos h, ite_self]

end Sys2Proof.Machine
end

