-- ==== Sys2Proof/Laws/Memory.lean ====
section
/-!
SUPPORT. RawBuffer as memory (20_memory R50): the cells of a buffer are in the canonical form, so every operation, whatever
it makes of the buffer, keeps it.
-/

namespace Sys2Proof.Machine

open Sys2Proof

@[simp] theorem cellsFrom_length (a : Nat) (b : Bytes) : (Memory.cellsFrom a b).length = b.length := by
  induction b generalizing a with
  | nil => rfl
  | cons x xs ih => simp [Memory.cellsFrom, ih]

theorem cellsFrom_addresses (a : Nat) (b : Bytes) : (Memory.cellsFrom a b).map Prod.fst = List.range' a b.length := by
  induction b generalizing a with
  | nil => rfl
  | cons x xs ih => simp [Memory.cellsFrom, ih, List.range'_succ]

/-- The canonical form holds of every buffer's cells. -/
theorem cells_wf (b : Bytes) : Memory.wf (Memory.cells b) = true := by
  simp [Memory.wf, Memory.cells, cellsFrom_addresses, List.range_eq_range']

/-- The canonical form holds in every state, so after every operation. -/
theorem mem_wf (s : State) : Memory.wf s.mem = true := cells_wf s.buf

/-- Each write of the buffer keeps the canonical form: append or replace, trim, clear. -/
theorem writes_keep_wf (memory : Bool) (buf chunk retained : Bytes) (limit : Nat) :
    Memory.wf (Memory.cells (receive memory buf chunk)) = true ∧
    Memory.wf (Memory.cells (trimTail retained limit)) = true ∧ Memory.wf (Memory.cells []) = true :=
  ⟨cells_wf _, cells_wf _, cells_wf _⟩

theorem reset_mem_wf : Memory.wf State.reset.mem = true := mem_wf _

/-- Equal cells are equal buffers. -/
theorem cellsFrom_injective (a : Nat) (b c : Bytes) (h : Memory.cellsFrom a b = Memory.cellsFrom a c) : b = c := by
  induction b generalizing a c with
  | nil => cases c <;> simp_all [Memory.cellsFrom]
  | cons x xs ih =>
    cases c with
    | nil => simp [Memory.cellsFrom] at h
    | cons y ys =>
      simp only [Memory.cellsFrom, List.cons.injEq, Prod.mk.injEq, true_and] at h
      rw [h.1, ih _ _ h.2]

end Sys2Proof.Machine
end

