-- ==== Sys2Proof/Laws/PerInstr.lean ====
section
/-!
SUPPORT. The statements made once per instruction: the row of the opcode table that a constructor stands for
(30_encoding R93).
-/

namespace Sys2Proof.Laws.TableRow

open Sys2Proof Sys2Proof.Machine

/-- An instruction has words exactly when its format has a bit pattern, and its first byte matches the `mask` and `match`
columns of its row of the opcode table where the row has them (R80, R84, R93). -/
def Statement (i : Instr) : Prop :=
  ∀ P : Params,
    ((encode P i).isSome = true ↔ i.format ≠ .micro ∧ i.format ≠ .pseudo) ∧
    ∀ mask value, i.tableRow = some (mask, value) → ∃ b rest, encode P i = some (b :: rest) ∧ b &&& mask = value

/-- A row whose high bits are fixed: the mask keeps them and clears the operand. -/
theorem high_bits_match {k w : Nat} (high : BitVec k) (low : BitVec w) :
    (high ++ low) &&& (BitVec.allOnes k ++ 0#w) = high ++ 0#w := by
  rw [BitVec.and_append]
  simp

/-- A constructor without words and without a row. -/
theorem of_no_words {i : Instr} (hf : i.format = .micro ∨ i.format = .pseudo) (he : ∀ P, encode P i = none)
    (hr : i.tableRow = none) : Statement i := by
  intro P
  refine ⟨?_, fun mask value h => ?_⟩
  · rcases hf with hf | hf <;> simp [he, hf]
  · rw [hr] at h
    cases h

/-- A constructor whose words begin with a byte that its row fixes. -/
theorem of_first_byte {i : Instr} {mask value : Byte} (b : Byte) (rest : Bytes)
    (hf : i.format ≠ .micro ∧ i.format ≠ .pseudo) (he : ∀ P, encode P i = some (b :: rest))
    (hr : i.tableRow = some (mask, value)) (hb : b &&& mask = value) : Statement i := by
  intro P
  refine ⟨by simp [he, hf], fun m v h => ⟨b, rest, he P, ?_⟩⟩
  rw [hr] at h
  cases h
  exact hb

/-- A constructor with words and without a row of fixed bits. -/
theorem of_layout {i : Instr} (hf : i.format ≠ .micro ∧ i.format ≠ .pseudo) (he : ∀ P, (encode P i).isSome = true)
    (hr : i.tableRow = none) : Statement i := by
  intro P
  refine ⟨by simp [he, hf], fun mask value h => ?_⟩
  rw [hr] at h
  cases h

/-! ### Host operations -/

theorem init (memory : Byte) (limit : Nat) : Statement (.init memory limit) :=
  of_first_byte _ _ (by simp [Instr.format]) (fun _ => rfl) rfl (by decide)

theorem addData (chunk : Bytes) : Statement (.addData chunk) :=
  of_first_byte _ _ (by simp [Instr.format]) (fun _ => rfl) rfl (by decide)

theorem getFrames : Statement .getFrames :=
  of_first_byte _ _ (by simp [Instr.format]) (fun _ => rfl) rfl (by decide)

theorem reservedOp03 : Statement .reservedOp03 :=
  of_first_byte _ _ (by simp [Instr.format]) (fun _ => rfl) rfl (by decide)

theorem reservedOp04 (low : BitVec 2) : Statement (.reservedOp04 low) :=
  of_first_byte _ _ (by simp [Instr.format]) (fun _ => rfl) rfl (high_bits_match _ _)

theorem reservedOp08 (low : BitVec 3) : Statement (.reservedOp08 low) :=
  of_first_byte _ _ (by simp [Instr.format]) (fun _ => rfl) rfl (high_bits_match _ _)

theorem reservedOp10 (low : BitVec 4) : Statement (.reservedOp10 low) :=
  of_first_byte _ _ (by simp [Instr.format]) (fun _ => rfl) rfl (high_bits_match _ _)

theorem reservedOp20 (low : BitVec 5) : Statement (.reservedOp20 low) :=
  of_first_byte _ _ (by simp [Instr.format]) (fun _ => rfl) rfl (high_bits_match _ _)

theorem reservedOp40 (low : BitVec 6) : Statement (.reservedOp40 low) :=
  of_first_byte _ _ (by simp [Instr.format]) (fun _ => rfl) rfl (high_bits_match _ _)

theorem reservedOp80 (low : BitVec 7) : Statement (.reservedOp80 low) :=
  of_first_byte _ _ (by simp [Instr.format]) (fun _ => rfl) rfl (high_bits_match _ _)

/-! ### Frames, large payloads, class bytes -/

theorem frame (messageId messageClass : Byte) (payload : Bytes) (crc : U16) (terminator : Byte) : Statement (.frame messageId messageClass payload crc terminator) :=
  of_layout (by simp [Instr.format]) (fun _ => rfl) rfl

theorem large (transmissionId : Byte) (pageIndex totalPages : U16) (pageData : Bytes) : Statement (.large transmissionId pageIndex totalPages pageData) :=
  of_layout (by simp [Instr.format]) (fun _ => rfl) rfl

theorem classLog : Statement .classLog :=
  of_first_byte _ _ (by simp [Instr.format]) (fun _ => rfl) rfl (by decide)

theorem classHighFrequency : Statement .classHighFrequency :=
  of_first_byte _ _ (by simp [Instr.format]) (fun _ => rfl) rfl (by decide)

theorem classNmeaStandard : Statement .classNmeaStandard :=
  of_first_byte _ _ (by simp [Instr.format]) (fun _ => rfl) rfl (by decide)

theorem classNmeaProprietary : Statement .classNmeaProprietary :=
  of_first_byte _ _ (by simp [Instr.format]) (fun _ => rfl) rfl (by decide)

theorem classThirdParty : Statement .classThirdParty :=
  of_first_byte _ _ (by simp [Instr.format]) (fun _ => rfl) rfl (by decide)

theorem classCommand : Statement .classCommand :=
  of_first_byte _ _ (by simp [Instr.format]) (fun _ => rfl) rfl (by decide)

theorem classUnknown05 : Statement .classUnknown05 :=
  of_first_byte _ _ (by simp [Instr.format]) (fun _ => rfl) rfl (by decide)

theorem classUnknown06 (low : BitVec 1) : Statement (.classUnknown06 low) :=
  of_first_byte _ _ (by simp [Instr.format]) (fun _ => rfl) rfl (high_bits_match _ _)

theorem classUnknown08 (low : BitVec 3) : Statement (.classUnknown08 low) :=
  of_first_byte _ _ (by simp [Instr.format]) (fun _ => rfl) rfl (high_bits_match _ _)

theorem classUnknown11 : Statement .classUnknown11 :=
  of_first_byte _ _ (by simp [Instr.format]) (fun _ => rfl) rfl (by decide)

theorem classUnknown12 (low : BitVec 1) : Statement (.classUnknown12 low) :=
  of_first_byte _ _ (by simp [Instr.format]) (fun _ => rfl) rfl (high_bits_match _ _)

theorem classUnknown14 (low : BitVec 2) : Statement (.classUnknown14 low) :=
  of_first_byte _ _ (by simp [Instr.format]) (fun _ => rfl) rfl (high_bits_match _ _)

theorem classUnknown18 (low : BitVec 3) : Statement (.classUnknown18 low) :=
  of_first_byte _ _ (by simp [Instr.format]) (fun _ => rfl) rfl (high_bits_match _ _)

theorem classUnknown20 (low : BitVec 5) : Statement (.classUnknown20 low) :=
  of_first_byte _ _ (by simp [Instr.format]) (fun _ => rfl) rfl (high_bits_match _ _)

theorem classUnknown40 (low : BitVec 6) : Statement (.classUnknown40 low) :=
  of_first_byte _ _ (by simp [Instr.format]) (fun _ => rfl) rfl (high_bits_match _ _)

theorem classUnknown80 (low : BitVec 7) : Statement (.classUnknown80 low) :=
  of_first_byte _ _ (by simp [Instr.format]) (fun _ => rfl) rfl (high_bits_match _ _)

/-! ### Micro-operations, the reset event and pseudo-operations -/

theorem crcReset : Statement .crcReset :=
  of_no_words (.inl rfl) (fun _ => rfl) rfl

theorem crcUpdate (b : Byte) : Statement (.crcUpdate b) :=
  of_no_words (.inl rfl) (fun _ => rfl) rfl

theorem computeCrc (bytes : Bytes) : Statement (.computeCrc bytes) :=
  of_no_words (.inl rfl) (fun _ => rfl) rfl

theorem readHeader (bytes : Bytes) : Statement (.readHeader bytes) :=
  of_no_words (.inl rfl) (fun _ => rfl) rfl

theorem readFooter (bytes : Bytes) : Statement (.readFooter bytes) :=
  of_no_words (.inl rfl) (fun _ => rfl) rfl

theorem isLarge (payloadLength : U16) : Statement (.isLarge payloadLength) :=
  of_no_words (.inl rfl) (fun _ => rfl) rfl

theorem decodeLarge (payload : Bytes) : Statement (.decodeLarge payload) :=
  of_no_words (.inl rfl) (fun _ => rfl) rfl

theorem classToType (messageClass : Byte) : Statement (.classToType messageClass) :=
  of_no_words (.inl rfl) (fun _ => rfl) rfl

theorem dispatch (messageClass messageId : Byte) (payload : Bytes) : Statement (.dispatch messageClass messageId payload) :=
  of_no_words (.inl rfl) (fun _ => rfl) rfl

theorem findLastSync (buf : Bytes) : Statement (.findLastSync buf) :=
  of_no_words (.inl rfl) (fun _ => rfl) rfl

theorem findNextSync (buf : Bytes) (cursor : Nat) : Statement (.findNextSync buf cursor) :=
  of_no_words (.inl rfl) (fun _ => rfl) rfl

theorem parseCandidate (c : Bytes) : Statement (.parseCandidate c) :=
  of_no_words (.inl rfl) (fun _ => rfl) rfl

theorem parsePass (buf : Bytes) : Statement (.parsePass buf) :=
  of_no_words (.inl rfl) (fun _ => rfl) rfl

theorem trim (retained : Bytes) (limit : Nat) : Statement (.trim retained limit) :=
  of_no_words (.inl rfl) (fun _ => rfl) rfl

theorem reset : Statement .reset :=
  of_no_words (.inl rfl) (fun _ => rfl) rfl

theorem pseudoFrame (messageId messageClass : Byte) (payload : Bytes) : Statement (.pseudoFrame messageId messageClass payload) :=
  of_no_words (.inr rfl) (fun _ => rfl) rfl

theorem pseudoFrameBadCrc (messageId messageClass : Byte) (payload : Bytes) : Statement (.pseudoFrameBadCrc messageId messageClass payload) :=
  of_no_words (.inr rfl) (fun _ => rfl) rfl

theorem pseudoFrameBadEtx (messageId messageClass : Byte) (payload : Bytes) : Statement (.pseudoFrameBadEtx messageId messageClass payload) :=
  of_no_words (.inr rfl) (fun _ => rfl) rfl

theorem addFrame (messageId messageClass : Byte) (payload : Bytes) : Statement (.addFrame messageId messageClass payload) :=
  of_no_words (.inr rfl) (fun _ => rfl) rfl

theorem largePayload (transmissionId : Byte) (pageIndex totalPages : U16) (data : Bytes) : Statement (.largePayload transmissionId pageIndex totalPages data) :=
  of_no_words (.inr rfl) (fun _ => rfl) rfl

theorem rep (b : Byte) (k : Nat) : Statement (.rep b k) :=
  of_no_words (.inr rfl) (fun _ => rfl) rfl

end Sys2Proof.Laws.TableRow
end

