-- ==== Sys2Proof/Laws/Runs.lean ====
section
/-!
SUPPORT. Runs of several instructions: a run over a concatenation is one run after the other.
-/

namespace Sys2Proof.Machine

open Sys2Proof

@[simp] theorem runInstrs_nil (s : State) : runInstrs [] s = some s := rfl

theorem runInstrs_cons_of_next {i : Instr} {s t : State} (h : exec i s = .next t) (is : List Instr) :
    runInstrs (i :: is) s = runInstrs is t := by
  rw [runInstrs, h]

theorem runInstrs_append (a b : List Instr) (s : State) :
    runInstrs (a ++ b) s = (runInstrs a s).bind (runInstrs b) := by
  induction a generalizing s with
  | nil => rfl
  | cons i is ih =>
    simp only [List.cons_append, runInstrs]
    split
    · exact ih _
    · rfl

end Sys2Proof.Machine
end

