-- ==== Sys2Proof/Laws/State.lean ====
section
/-!
SUPPORT. The small lemmas of State: for each update, what every field is afterwards, true by rfl, so that no proof unfolds a
record update.
-/

namespace Sys2Proof.Machine

open Sys2Proof

@[simp] theorem respond_configured (r : Response) (s : State) : (respond r s).configured = s.configured := rfl

@[simp] theorem respond_memory (r : Response) (s : State) : (respond r s).memory = s.memory := rfl

@[simp] theorem respond_bufferLimit (r : Response) (s : State) : (respond r s).bufferLimit = s.bufferLimit := rfl

@[simp] theorem respond_buf (r : Response) (s : State) : (respond r s).buf = s.buf := rfl

@[simp] theorem respond_queue (r : Response) (s : State) : (respond r s).queue = s.queue := rfl

@[simp] theorem respond_dp (r : Response) (s : State) : (respond r s).dp = s.dp := rfl

@[simp] theorem respond_params (r : Response) (s : State) : (respond r s).params = s.params := rfl

@[simp] theorem respond_input (r : Response) (s : State) : (respond r s).input = s.input := rfl

@[simp] theorem respond_resetReq (r : Response) (s : State) : (respond r s).resetReq = s.resetReq := rfl

@[simp] theorem respond_responses (r : Response) (s : State) : (respond r s).responses = s.responses ++ [r] := rfl

@[simp] theorem respond_result (r : Response) (s : State) : (respond r s).result = s.result := rfl

@[simp] theorem respond_freeCount (r : Response) (s : State) : (respond r s).freeCount = s.freeCount := rfl

@[simp] theorem returns_configured (r : MicroResult) (s : State) : (returns r s).configured = s.configured := rfl

@[simp] theorem returns_memory (r : MicroResult) (s : State) : (returns r s).memory = s.memory := rfl

@[simp] theorem returns_bufferLimit (r : MicroResult) (s : State) : (returns r s).bufferLimit = s.bufferLimit := rfl

@[simp] theorem returns_buf (r : MicroResult) (s : State) : (returns r s).buf = s.buf := rfl

@[simp] theorem returns_queue (r : MicroResult) (s : State) : (returns r s).queue = s.queue := rfl

@[simp] theorem returns_dp (r : MicroResult) (s : State) : (returns r s).dp = s.dp := rfl

@[simp] theorem returns_params (r : MicroResult) (s : State) : (returns r s).params = s.params := rfl

@[simp] theorem returns_input (r : MicroResult) (s : State) : (returns r s).input = s.input := rfl

@[simp] theorem returns_resetReq (r : MicroResult) (s : State) : (returns r s).resetReq = s.resetReq := rfl

@[simp] theorem returns_responses (r : MicroResult) (s : State) : (returns r s).responses = s.responses := rfl

@[simp] theorem returns_result (r : MicroResult) (s : State) : (returns r s).result = r := rfl

@[simp] theorem returns_freeCount (r : MicroResult) (s : State) : (returns r s).freeCount = s.freeCount := rfl

@[simp] theorem refuseNotConfigured_configured (s : State) : (refuseNotConfigured s).configured = s.configured := rfl

@[simp] theorem refuseNotConfigured_memory (s : State) : (refuseNotConfigured s).memory = s.memory := rfl

@[simp] theorem refuseNotConfigured_bufferLimit (s : State) : (refuseNotConfigured s).bufferLimit = s.bufferLimit := rfl

@[simp] theorem refuseNotConfigured_buf (s : State) : (refuseNotConfigured s).buf = s.buf := rfl

@[simp] theorem refuseNotConfigured_queue (s : State) : (refuseNotConfigured s).queue = s.queue := rfl

@[simp] theorem refuseNotConfigured_dp (s : State) : (refuseNotConfigured s).dp = s.dp := rfl

@[simp] theorem refuseNotConfigured_params (s : State) : (refuseNotConfigured s).params = s.params := rfl

@[simp] theorem refuseNotConfigured_input (s : State) : (refuseNotConfigured s).input = s.input := rfl

@[simp] theorem refuseNotConfigured_resetReq (s : State) : (refuseNotConfigured s).resetReq = s.resetReq := rfl

@[simp] theorem refuseNotConfigured_responses (s : State) : (refuseNotConfigured s).responses = s.responses ++ [.notConfigured] := rfl

@[simp] theorem refuseNotConfigured_result (s : State) : (refuseNotConfigured s).result = s.result := rfl

@[simp] theorem refuseNotConfigured_freeCount (s : State) : (refuseNotConfigured s).freeCount = s.freeCount := rfl

@[simp] theorem refuseBadOp_configured (s : State) : (refuseBadOp s).configured = s.configured := rfl

@[simp] theorem refuseBadOp_memory (s : State) : (refuseBadOp s).memory = s.memory := rfl

@[simp] theorem refuseBadOp_bufferLimit (s : State) : (refuseBadOp s).bufferLimit = s.bufferLimit := rfl

@[simp] theorem refuseBadOp_buf (s : State) : (refuseBadOp s).buf = s.buf := rfl

@[simp] theorem refuseBadOp_queue (s : State) : (refuseBadOp s).queue = s.queue := rfl

@[simp] theorem refuseBadOp_dp (s : State) : (refuseBadOp s).dp = s.dp := rfl

@[simp] theorem refuseBadOp_params (s : State) : (refuseBadOp s).params = s.params := rfl

@[simp] theorem refuseBadOp_input (s : State) : (refuseBadOp s).input = s.input := rfl

@[simp] theorem refuseBadOp_resetReq (s : State) : (refuseBadOp s).resetReq = s.resetReq := rfl

@[simp] theorem refuseBadOp_responses (s : State) : (refuseBadOp s).responses = s.responses ++ [.badOp] := rfl

@[simp] theorem refuseBadOp_result (s : State) : (refuseBadOp s).result = s.result := rfl

@[simp] theorem refuseBadOp_freeCount (s : State) : (refuseBadOp s).freeCount = s.freeCount := rfl

@[simp] theorem raiseConfigError_configured (s : State) : (raiseConfigError s).configured = false := rfl

@[simp] theorem raiseConfigError_memory (s : State) : (raiseConfigError s).memory = Config.freeMemory s.freeCount := rfl

@[simp] theorem raiseConfigError_bufferLimit (s : State) : (raiseConfigError s).bufferLimit = Config.freeLimit s.freeCount := rfl

@[simp] theorem raiseConfigError_buf (s : State) : (raiseConfigError s).buf = Config.freeBuf s.freeCount := rfl

@[simp] theorem raiseConfigError_queue (s : State) : (raiseConfigError s).queue = Config.freeQueue s.freeCount := rfl

@[simp] theorem raiseConfigError_dp (s : State) : (raiseConfigError s).dp = s.dp := rfl

@[simp] theorem raiseConfigError_params (s : State) : (raiseConfigError s).params = s.params := rfl

@[simp] theorem raiseConfigError_input (s : State) : (raiseConfigError s).input = s.input := rfl

@[simp] theorem raiseConfigError_resetReq (s : State) : (raiseConfigError s).resetReq = s.resetReq := rfl

@[simp] theorem raiseConfigError_responses (s : State) : (raiseConfigError s).responses = s.responses ++ [.configError] := rfl

@[simp] theorem raiseConfigError_result (s : State) : (raiseConfigError s).result = s.result := rfl

@[simp] theorem raiseConfigError_freeCount (s : State) : (raiseConfigError s).freeCount = s.freeCount + 1 := rfl

@[simp] theorem configure_configured (m : Bool) (l : Nat) (s : State) : (configure m l s).configured = true := rfl

@[simp] theorem configure_memory (m : Bool) (l : Nat) (s : State) : (configure m l s).memory = m := rfl

@[simp] theorem configure_bufferLimit (m : Bool) (l : Nat) (s : State) : (configure m l s).bufferLimit = l := rfl

@[simp] theorem configure_buf (m : Bool) (l : Nat) (s : State) : (configure m l s).buf = [] := rfl

@[simp] theorem configure_queue (m : Bool) (l : Nat) (s : State) : (configure m l s).queue = [] := rfl

@[simp] theorem configure_dp (m : Bool) (l : Nat) (s : State) : (configure m l s).dp = unspecifiedDatapath s.freeCount := rfl

@[simp] theorem configure_params (m : Bool) (l : Nat) (s : State) : (configure m l s).params = s.params := rfl

@[simp] theorem configure_input (m : Bool) (l : Nat) (s : State) : (configure m l s).input = s.input := rfl

@[simp] theorem configure_resetReq (m : Bool) (l : Nat) (s : State) : (configure m l s).resetReq = s.resetReq := rfl

@[simp] theorem configure_responses (m : Bool) (l : Nat) (s : State) : (configure m l s).responses = s.responses ++ [.ok] := rfl

@[simp] theorem configure_result (m : Bool) (l : Nat) (s : State) : (configure m l s).result = s.result := rfl

@[simp] theorem configure_freeCount (m : Bool) (l : Nat) (s : State) : (configure m l s).freeCount = s.freeCount + 1 := rfl

@[simp] theorem ingest_configured (chunk : Bytes) (s : State) : (ingest chunk s).configured = s.configured := rfl

@[simp] theorem ingest_memory (chunk : Bytes) (s : State) : (ingest chunk s).memory = s.memory := rfl

@[simp] theorem ingest_bufferLimit (chunk : Bytes) (s : State) : (ingest chunk s).bufferLimit = s.bufferLimit := rfl

@[simp] theorem ingest_buf (chunk : Bytes) (s : State) : (ingest chunk s).buf = trimTail (runPass s.params (receive s.memory s.buf chunk) s.dp).retained s.bufferLimit := rfl

@[simp] theorem ingest_queue (chunk : Bytes) (s : State) : (ingest chunk s).queue = emit s.memory s.queue (runPass s.params (receive s.memory s.buf chunk) s.dp).batch := rfl

@[simp] theorem ingest_dp (chunk : Bytes) (s : State) : (ingest chunk s).dp = runPass s.params (receive s.memory s.buf chunk) s.dp := rfl

@[simp] theorem ingest_params (chunk : Bytes) (s : State) : (ingest chunk s).params = s.params := rfl

@[simp] theorem ingest_input (chunk : Bytes) (s : State) : (ingest chunk s).input = s.input := rfl

@[simp] theorem ingest_resetReq (chunk : Bytes) (s : State) : (ingest chunk s).resetReq = s.resetReq := rfl

@[simp] theorem ingest_responses (chunk : Bytes) (s : State) : (ingest chunk s).responses = s.responses ++ [.okDiag (runPass s.params (receive s.memory s.buf chunk) s.dp).diag] := rfl

@[simp] theorem ingest_result (chunk : Bytes) (s : State) : (ingest chunk s).result = s.result := rfl

@[simp] theorem ingest_freeCount (chunk : Bytes) (s : State) : (ingest chunk s).freeCount = s.freeCount := rfl

@[simp] theorem withFetchWord_configured (nbits w : Nat) (s : State) : (s.withFetchWord nbits w).configured = s.configured := rfl

@[simp] theorem withFetchWord_memory (nbits w : Nat) (s : State) : (s.withFetchWord nbits w).memory = s.memory := rfl

@[simp] theorem withFetchWord_bufferLimit (nbits w : Nat) (s : State) : (s.withFetchWord nbits w).bufferLimit = s.bufferLimit := rfl

@[simp] theorem withFetchWord_buf (nbits w : Nat) (s : State) : (s.withFetchWord nbits w).buf = s.buf := rfl

@[simp] theorem withFetchWord_queue (nbits w : Nat) (s : State) : (s.withFetchWord nbits w).queue = s.queue := rfl

@[simp] theorem withFetchWord_dp (nbits w : Nat) (s : State) : (s.withFetchWord nbits w).dp = s.dp := rfl

@[simp] theorem withFetchWord_params (nbits w : Nat) (s : State) : (s.withFetchWord nbits w).params = s.params := rfl

@[simp] theorem withFetchWord_input (nbits w : Nat) (s : State) : (s.withFetchWord nbits w).input = tableWordBytes nbits w := rfl

@[simp] theorem withFetchWord_resetReq (nbits w : Nat) (s : State) : (s.withFetchWord nbits w).resetReq = false := rfl

@[simp] theorem withFetchWord_responses (nbits w : Nat) (s : State) : (s.withFetchWord nbits w).responses = s.responses := rfl

@[simp] theorem withFetchWord_result (nbits w : Nat) (s : State) : (s.withFetchWord nbits w).result = s.result := rfl

@[simp] theorem withFetchWord_freeCount (nbits w : Nat) (s : State) : (s.withFetchWord nbits w).freeCount = s.freeCount := rfl

@[simp] theorem unspecifiedDatapath_seqState (k : Nat) : (unspecifiedDatapath k).seqState = .idle := rfl

end Sys2Proof.Machine
end

