-- ==== Sys2Proof/Tests/Slice0.lean ====
section
/-!
SUPPORT. Tests: well-formedness, words written out from the encoding tables, single steps whose expected results are the
vectors V<n> of 95_test_vectors, and for each statement with hypotheses a state and operands that meet them. The sync and
terminator bytes are the vectors' own (FF 5A, 33).
-/

namespace Sys2Proof.Tests

open Sys2Proof Sys2Proof.Machine

/-! ### Helpers -/

/-- The parameters of the vectors, with an empty registry. -/
def tp : Params := ⟨0xFF, 0x5A, 0x33, []⟩

/-- `F0`. -/
def f0 : Bytes := [0xFF, 0x5A, 0x01, 0x00, 0x00, 0x00, 0xBB, 0x1C, 0x33]

/-- `F1`. -/
def f1 : Bytes := [0xFF, 0x5A, 0x03, 0x00, 0x04, 0x00, 0x11, 0x22, 0x33, 0x44, 0x0F, 0x6B, 0x33]

/-- `F2`. -/
def f2 : Bytes := [0xFF, 0x5A, 0x06, 0x01, 0x03, 0x00, 0xFF, 0x5A, 0x00, 0x5E, 0xA9, 0x33]

/-- `F3`. -/
def f3 : Bytes := [0xFF, 0x5A, 0x2A, 0x10, 0x01, 0x00, 0xAA, 0x14, 0xBF, 0x33]

/-- `F4`. -/
def f4 : Bytes := [0xFF, 0x5A, 0x07, 0x77, 0x02, 0x00, 0x01, 0x02, 0x42, 0x3A, 0x33]

/-- `F1x`: the stored CRC is wrong. -/
def f1x : Bytes := [0xFF, 0x5A, 0x03, 0x00, 0x04, 0x00, 0x11, 0x22, 0x33, 0x44, 0x0E, 0x6B, 0x33]

/-- `F3t`: the terminator is wrong. -/
def f3t : Bytes := [0xFF, 0x5A, 0x2A, 0x10, 0x01, 0x00, 0xAA, 0x14, 0xBF, 0xCC]

/-- The frame record of a complete candidate, as a list. -/
def frameOf (c : Bytes) : List Frame :=
  match parseCandidate tp c with
  | .complete f => [f]
  | _ => []

/-- A state with the five architectural elements given, everything else as at reset, and the vectors' parameters. -/
def st (configured memory : Bool) (limit : Nat) (buf : Bytes) (queue : List Frame) : State :=
  { State.reset with
    configured := configured, memory := memory, bufferLimit := limit, buf := buf, queue := queue, params := tp }

/-- `st` with operation words pending. -/
def stIn (input : Bytes) : State := { st false false 1 [] [] with input := input }

/-- What a next state satisfies; false where there is none. -/
def afterExec (i : Instr) (s : State) (p : State → Bool) : Bool :=
  match exec i s with
  | .next t => p t
  | _ => false

/-- The architectural state as the vectors write it, frames by their bytes. -/
def arch (s : State) : Bool × Bool × Nat × Bytes × List Bytes :=
  (s.configured, s.memory, s.bufferLimit, s.buf, s.queue.map Frame.rawBytes)

/-- A latch that holds something everywhere, so that what a step writes is seen. -/
def busy : State :=
  { st true true 64 [0xFF, 0x5A] [] with
    dp := { Datapath.reset with
      crcAcc := 0x1189, header := ⟨(1, 2), 3, 4, 5⟩, footer := ⟨6, 7⟩, lastSyncIndex := some 9, isLarge := true,
      cursor := 11, batch := [], diag := [⟨.checksumError, 2⟩] } }

/-- A property of all marker indices is checked below the length. -/
theorem forall_marker {P : Params} {buf : Bytes} {p : Nat → Prop}
    (h : ∀ j < buf.length, MarkerIndex P buf j → p j) (j : Nat) (hj : MarkerIndex P buf j) : p j :=
  h j (by have := hj.1; omega) hj

/-! ### Well-formedness: an ill-formed term for each check -/

theorem test_wf_init_limit : (Instr.init 0 4294967296).wellFormed = false := by decide

theorem test_wf_addData_length : (Instr.addData (List.replicate 4294967296 0)).wellFormed = false := by
  simp only [Instr.wellFormed, List.length_replicate]
  decide

theorem test_wf_frame_payload : (Instr.frame 0 0 (List.replicate 65536 0) 0 0).wellFormed = false := by
  simp only [Instr.wellFormed, payloadFits, List.length_replicate]
  decide

theorem test_wf_large_short : (Instr.large 0 0 0 (List.replicate 4091 0)).wellFormed = false := by
  simp only [Instr.wellFormed, List.length_replicate]
  decide

theorem test_wf_large_long : (Instr.large 0 0 0 (List.replicate 65531 0)).wellFormed = false := by
  simp only [Instr.wellFormed, List.length_replicate]
  decide

theorem test_wf_trim_limit : (Instr.trim [] 0).wellFormed = false := by decide

theorem test_wf_pseudoFrame_payload : (Instr.pseudoFrame 0 0 (List.replicate 65536 0)).wellFormed = false := by
  simp only [Instr.wellFormed, payloadFits, List.length_replicate]
  decide

theorem test_wf_pseudoFrameBadCrc_payload : (Instr.pseudoFrameBadCrc 0 0 (List.replicate 65536 0)).wellFormed = false := by
  simp only [Instr.wellFormed, payloadFits, List.length_replicate]
  decide

theorem test_wf_pseudoFrameBadEtx_payload : (Instr.pseudoFrameBadEtx 0 0 (List.replicate 65536 0)).wellFormed = false := by
  simp only [Instr.wellFormed, payloadFits, List.length_replicate]
  decide

theorem test_wf_addFrame_payload : (Instr.addFrame 0 0 (List.replicate 65536 0)).wellFormed = false := by
  simp only [Instr.wellFormed, payloadFits, List.length_replicate]
  decide

/-! ### Words written out from the encodings (R84, R80, R71, R77; the operations' words from part 3 of 95) -/

theorem test_decode_init : decode [0x00, 0x01, 0x40, 0x00, 0x00, 0x00] = .ok (.init 1 64, []) := by decide

theorem test_decode_init_byte_order : decode [0x00, 0x00, 0x01, 0x02, 0x03, 0x04] = .ok (.init 0 0x04030201, []) := by
  decide

theorem test_decode_addData :
    decode [0x01, 0x07, 0x00, 0x00, 0x00, 0xFF, 0x5A, 0x03, 0x00, 0x04, 0x00, 0x11, 0x02] =
      .ok (.addData [0xFF, 0x5A, 0x03, 0x00, 0x04, 0x00, 0x11], [0x02]) := by decide

theorem test_decode_getFrames : decode [0x02] = .ok (.getFrames, []) := by decide

theorem test_decode_reservedOp03 : decode [0x03] = .ok (.reservedOp03, []) := by decide

theorem test_decode_reservedOp04 : decode [0x04] = .ok (.reservedOp04 0, []) ∧ decode [0x07] = .ok (.reservedOp04 3, []) := by
  decide

theorem test_decode_reservedOp08 : decode [0x08] = .ok (.reservedOp08 0, []) ∧ decode [0x0F] = .ok (.reservedOp08 7, []) := by
  decide

theorem test_decode_reservedOp10 :
    decode [0x10] = .ok (.reservedOp10 0, []) ∧ decode [0x1F] = .ok (.reservedOp10 15, []) := by decide

theorem test_decode_reservedOp20 :
    decode [0x20] = .ok (.reservedOp20 0, []) ∧ decode [0x3F] = .ok (.reservedOp20 31, []) := by decide

theorem test_decode_reservedOp40 :
    decode [0x40] = .ok (.reservedOp40 0, []) ∧ decode [0x7F] = .ok (.reservedOp40 63, []) := by decide

theorem test_decode_reservedOp80 :
    decode [0x80] = .ok (.reservedOp80 0, []) ∧ decode [0xFF] = .ok (.reservedOp80 127, []) := by decide

theorem test_decode_rejects :
    decode [] = .error .empty ∧ decode [0x00, 0x01, 0x40, 0x00, 0x00] = .error .truncatedInit ∧
    decode [0x01, 0x02, 0x00, 0x00, 0x00, 0xFF] = .error .truncatedAddData := by decide

theorem test_decode_frame : decodeFrame tp (f1 ++ [0x02]) = .ok (.frame 3 0 [0x11, 0x22, 0x33, 0x44] 0x6B0F 0x33, [0x02]) := by
  decide

theorem test_decode_frame_rejects :
    decodeFrame tp (f1.drop 1) = .error .noSync ∧ decodeFrame tp (f1.take 12) = .error .truncatedFrame := by decide

/-- V62, field by field (R77), whatever the 4092 bytes of page data are. -/
theorem test_decode_large (data : Bytes) (h : data.length = 4092) :
    Sys2Proof.decodeLarge ([0x07, 0x02, 0x00, 0x05, 0x00] ++ data) = .ok (.large 7 2 5 data) := by
  simp [Sys2Proof.decodeLarge, Config.largeThreshold, Config.maxPayload, byteAt, le16, h]

theorem test_decode_class_named :
    decodeClass 0x00 = .classLog ∧ decodeClass 0x01 = .classHighFrequency ∧ decodeClass 0x02 = .classNmeaStandard ∧
    decodeClass 0x03 = .classNmeaProprietary ∧ decodeClass 0x04 = .classThirdParty ∧ decodeClass 0x10 = .classCommand := by
  decide

theorem test_decode_class_unknown_low :
    decodeClass 0x05 = .classUnknown05 ∧ decodeClass 0x06 = .classUnknown06 0 ∧ decodeClass 0x07 = .classUnknown06 1 ∧
    decodeClass 0x08 = .classUnknown08 0 ∧ decodeClass 0x0F = .classUnknown08 7 := by decide

theorem test_decode_class_unknown_mid :
    decodeClass 0x11 = .classUnknown11 ∧ decodeClass 0x12 = .classUnknown12 0 ∧ decodeClass 0x13 = .classUnknown12 1 ∧
    decodeClass 0x14 = .classUnknown14 0 ∧ decodeClass 0x17 = .classUnknown14 3 ∧ decodeClass 0x18 = .classUnknown18 0 ∧
    decodeClass 0x1F = .classUnknown18 7 := by decide

theorem test_decode_class_unknown_high :
    decodeClass 0x20 = .classUnknown20 0 ∧ decodeClass 0x3F = .classUnknown20 31 ∧ decodeClass 0x40 = .classUnknown40 0 ∧
    decodeClass 0x77 = .classUnknown40 0x37 ∧ decodeClass 0x80 = .classUnknown80 0 ∧
    decodeClass 0xFF = .classUnknown80 127 := by decide

theorem test_table_words :
    decodeTableWord 8 0x00 = some (.init 0 0) ∧ decodeTableWord 8 0x01 = some (.addData []) ∧
    decodeTableWord 8 0x02 = some .getFrames ∧ decodeTableWord 8 0xFF = some (.reservedOp80 127) := by decide

theorem test_table_word_operands :
    decodeTableWord 48 0x000000400100 = some (.init 1 64) ∧ decodeTableWord 40 0x0000000201 = some (.addData [0, 0]) := by
  decide

theorem test_withFetchWord_step :
    (match step (State.reset.withFetchWord 8 0x07) with
      | .next t => decide (t.responses = [.badOp] ∧ t.input = [])
      | _ => false) = true := by decide

/-! ### Host operations (V110 to V121) -/

/-- V110. -/
theorem test_init_after_reset :
    afterExec (.init 1 1024) State.reset (fun t =>
      decide (arch t = (true, true, 1024, [], []) ∧ t.responses = [.ok])) = true := by decide

/-- V111: buffer and undrained frame are discarded. -/
theorem test_init_discards :
    afterExec (.init 0 16) (st true true 64 [0xFF, 0x5A] (frameOf f1)) (fun t =>
      decide (arch t = (true, false, 16, [], []))) = true := by decide

/-- V112. -/
theorem test_init_zero_limit :
    afterExec (.init 1 0) (st true true 64 [] []) (fun t =>
      decide (t.configured = false ∧ t.responses = [.configError])) = true := by decide

/-- V113. -/
theorem test_init_memory_byte :
    afterExec (.init 2 8) (st true true 64 [] []) (fun t =>
      decide (t.configured = false ∧ t.responses = [.configError])) = true := by decide

/-- P2, step 2: a bad CRC, a bad terminator and two frames in one chunk. -/
theorem test_addData_resync :
    afterExec (.addData ([0x00, 0x11, 0xFF] ++ f1x ++ f0 ++ [0xDE, 0xAD] ++ f3t ++ f4)) (st true true 256 [] []) (fun t =>
      decide (arch t = (true, true, 256, [], [f0, f4]) ∧
        t.responses = [.okDiag [⟨.checksumError, 3⟩, ⟨.terminatorError, 27⟩]])) = true := by decide +kernel

/-- P1, step 4: the rest of a split frame and the start of the next. -/
theorem test_addData_split :
    afterExec (.addData [0x22, 0x33, 0x44, 0x0F, 0x6B, 0x33, 0xFF, 0x5A]) (st true true 64 (f1.take 7) []) (fun t =>
      decide (arch t = (true, true, 64, [0xFF, 0x5A], [f1]))) = true := by decide +kernel

/-- V117. -/
theorem test_getFrames_empty :
    afterExec .getFrames (st true true 64 [] []) (fun t =>
      decide (arch t = (true, true, 64, [], []) ∧ t.responses = [.frames []])) = true := by decide

/-- V115. -/
theorem test_getFrames_unconfigured :
    afterExec .getFrames (st false true 64 [] []) (fun t =>
      decide (arch t = (false, true, 64, [], []) ∧ t.responses = [.notConfigured])) = true := by decide

/-- V116, at each reserved row. -/
theorem test_reserved_badOp :
    ∀ i ∈ ([.reservedOp03, .reservedOp04 3, .reservedOp08 0, .reservedOp10 1, .reservedOp20 2, .reservedOp40 3,
        .reservedOp80 4] : List Instr),
      afterExec i (st true true 64 [0xFF, 0x5A] []) (fun t =>
        decide (arch t = (true, true, 64, [0xFF, 0x5A], []) ∧ t.responses = [.badOp])) = true := by decide

/-! ### Frames, large payloads, class bytes -/

/-- V41 and V56: the verdict on a frame's bytes, and the priority of the checksum. -/
theorem test_frame_verdicts :
    afterExec (.frame 3 0 [0x11, 0x22, 0x33, 0x44] 0x6B0F 0x33) (st true true 64 [] []) (fun t =>
      match t.result with
      | .verdict (.complete f) => decide (f.rawBytes = f1 ∧ f.messageType = .log)
      | _ => false) = true ∧
    afterExec (.frame 3 0 [0x11, 0x22, 0x33, 0x44] 0x6B0E 0xCC) (st true true 64 [] []) (fun t =>
      decide (t.result = .verdict .checksumError)) = true := by decide +kernel

/-- V63: the byte order of the two fields. -/
theorem test_large_fields :
    afterExec (.large 0xEE 0x0102 0x0304 [0x09]) (st true true 64 [] []) (fun t =>
      decide (t.dp.large = some ⟨238, 258, 772, [0x09]⟩)) = true := by decide

/-- V70 to V76. -/
theorem test_class_types :
    ([(.classLog, .log), (.classHighFrequency, .highFrequency), (.classNmeaStandard, .nmeaStandard),
      (.classNmeaProprietary, .nmeaProprietary), (.classThirdParty, .thirdParty), (.classCommand, .command),
      (.classUnknown05, .unknown), (.classUnknown06 1, .unknown), (.classUnknown08 7, .unknown),
      (.classUnknown11, .unknown), (.classUnknown12 0, .unknown), (.classUnknown14 0, .unknown),
      (.classUnknown18 0, .unknown), (.classUnknown20 0, .unknown), (.classUnknown40 0x37, .unknown),
      (.classUnknown80 127, .unknown)] : List (Instr × MessageType)).all (fun x =>
        afterExec x.1 (st true true 64 [] []) (fun t => decide (t.result = .messageType x.2))) = true := by decide

/-! ### Micro-operations (V1 to V103) -/

theorem test_crcReset : afterExec .crcReset busy (fun t => decide (t.dp.crcAcc = 0)) = true := by decide

/-- V18, V20. -/
theorem test_crcUpdate :
    crcUpdate 0xFFFF 0x00 = 0x0F87 ∧
    afterExec (.crcUpdate 0x11) busy (fun t => decide (t.dp.crcAcc = 0x18D0)) = true := by decide

/-- R102: the eight steps the vectors list for `0x01`. -/
theorem test_crc_steps :
    [crcShifts 1 1, crcShifts 2 1, crcShifts 3 1, crcShifts 4 1, crcShifts 5 1, crcShifts 6 1, crcShifts 7 1, crcShifts 8 1] =
      [0x8408, 0x4204, 0x2102, 0x1081, 0x8C48, 0x4624, 0x2312, 0x1189] := by decide

/-- V11: the check value. -/
theorem test_computeCrc_check :
    afterExec (.computeCrc [0x31, 0x32, 0x33, 0x34, 0x35, 0x36, 0x37, 0x38, 0x39]) busy (fun t =>
      decide (t.result = .crc 0x2189 ∧ t.dp.crcAcc = 0x2189)) = true := by decide +kernel

/-- V13, V9. -/
theorem test_computeCrc_bodies :
    computeCrc [0x03, 0x00, 0x04, 0x00, 0x11, 0x22, 0x33, 0x44] = 0x6B0F ∧ computeCrc [0xFF, 0xFF] = 0xF0B8 := by
  decide +kernel

/-- V33: the sync bytes are copied, not checked. -/
theorem test_readHeader :
    afterExec (.readHeader [0x12, 0x34, 0x56, 0x78, 0x02, 0x01]) busy (fun t =>
      decide (t.dp.header = ⟨(0x12, 0x34), 0x56, 0x78, 258⟩)) = true := by decide

/-- V32. -/
theorem test_readHeader_short :
    afterExec (.readHeader [0xFF, 0x5A, 0x01, 0x00, 0x01]) busy (fun t =>
      decide (t.result = .insufficientLength ∧ t.dp = busy.dp)) = true := by decide

/-- V36: returned as read. -/
theorem test_readFooter :
    afterExec (.readFooter f3t) busy (fun t => decide (t.dp.footer = ⟨0xBF14, 0xCC⟩)) = true := by decide

/-- V37. -/
theorem test_readFooter_short :
    afterExec (.readFooter (f1.take 12)) busy (fun t => decide (t.result = .noResult ∧ arch t = arch busy)) = true := by
  decide

/-- V60, V61. -/
theorem test_isLarge :
    [isLargeFlag 0, isLargeFlag 4095, isLargeFlag 4096, isLargeFlag 4097, isLargeFlag 65535] =
      [false, false, false, true, true] ∧
    afterExec (.isLarge 4096) busy (fun t => decide (t.result = .flag false ∧ t.dp.isLarge = false)) = true := by decide

/-- V64 with a short tail: nothing is validated. -/
theorem test_decodeLarge :
    afterExec (.decodeLarge [0x00, 0x09, 0x00, 0x00, 0x00]) busy (fun t =>
      decide (t.dp.large = some ⟨0, 9, 0, []⟩)) = true := by decide

/-- R139. -/
theorem test_decodeLarge_short :
    afterExec (.decodeLarge [0x00, 0x09, 0x00, 0x00]) busy (fun t => decide (t.result = .noResult)) = true := by decide

/-- V75, V76. -/
theorem test_classToType :
    typeOfClass 0x0F = .unknown ∧
    afterExec (.classToType 0x10) busy (fun t => decide (t.result = .messageType .command)) = true := by decide

/-- V77. -/
theorem test_dispatch_unknown :
    afterExec (.dispatch 0x77 0x07 [0x01, 0x02]) busy (fun t => decide (t.result = .dispatched "unknown" none)) = true := by
  decide

/-- V80, V81. -/
theorem test_findLastSync :
    findLastSync tp (f0 ++ [0xFF]) = some 0 ∧
    afterExec (.findLastSync [0xFF, 0x5A, 0x03, 0x00, 0xFF, 0x5A, 0x01]) busy (fun t =>
      decide (t.result = .index (some 4) ∧ t.dp.lastSyncIndex = some 4)) = true := by decide

/-- V87, V82: equal sync bytes overlap; a lone byte is no marker. -/
theorem test_findLastSync_edges :
    findLastSync ⟨0xAA, 0xAA, 0x33, []⟩ [0xAA, 0xAA, 0xAA] = some 1 ∧ findLastSync tp [0x00, 0xFF] = none ∧
    findLastSync tp [0x5A, 0xFF] = none := by decide

/-- V84, V86. -/
theorem test_findNextSync :
    findNextSync tp [0xFF, 0x5A, 0x01] 1 = none ∧
    afterExec (.findNextSync ([0xFF, 0x5A] ++ f0) 1) busy (fun t =>
      decide (t.result = .index (some 2) ∧ t.dp = busy.dp)) = true := by decide

/-- V55 and V90 as candidates. -/
theorem test_parseCandidate :
    parseCandidate tp (f1.take 9) = .missingBytes ∧
    afterExec (.parseCandidate [0xFF, 0x5A, 0x01, 0x00, 0x00, 0x00, 0xBB, 0x1C, 0x34]) busy (fun t =>
      decide (t.result = .verdict .terminatorError ∧ t.dp.crcAcc = 0x1CBB ∧ t.dp.footer = ⟨0x1CBB, 0x34⟩)) = true := by
  decide +kernel

/-- P1, step 5: the whole record of `F1`. -/
theorem test_parseCandidate_record :
    parseCandidate tp f1 = .complete ⟨⟨(0xFF, 0x5A), 3, 0, 4⟩, ⟨0x6B0F, 0x33⟩, "unknown", .log, .standard, none, f1, none⟩ := by
  decide +kernel

/-- V95: a false marker between two frames. -/
theorem test_parsePass :
    afterExec (.parsePass (f0 ++ [0xFF, 0x5A] ++ f3)) busy (fun t =>
      decide (t.dp.batch.map Frame.rawBytes = [f0, f3] ∧ t.dp.retained = [] ∧ t.dp.diag = [] ∧ arch t = arch busy)) = true := by
  decide +kernel

/-- V58: the last marker only is retained. -/
theorem test_parsePass_retains :
    parsePass tp [0xFF, 0x5A, 0x03, 0x00, 0xFF, 0x5A, 0x01] = ⟨[], [0xFF, 0x5A, 0x01], []⟩ := by decide +kernel

/-- V102, V101. -/
theorem test_trim :
    trimTail (f1.take 8) 8 = f1.take 8 ∧
    afterExec (.trim (f1.take 8) 7) busy (fun t =>
      decide (t.buf = [0x5A, 0x03, 0x00, 0x04, 0x00, 0x11, 0x22])) = true := by decide

/-- R240. -/
theorem test_reset :
    afterExec .reset (st true true 64 [0xFF, 0x5A] (frameOf f1)) (fun t =>
      decide (t.configured = false ∧ t.buf = [] ∧ t.queue = [] ∧ t.dp.seqState = .idle)) = true := by decide

/-! ### Pseudo-operations -/

theorem test_pseudoFrame :
    afterExec (.pseudoFrame 6 1 [0xFF, 0x5A, 0x00]) busy (fun t => decide (t.result = .bytes f2)) = true := by decide +kernel

theorem test_pseudoFrameBadCrc :
    afterExec (.pseudoFrameBadCrc 3 0 [0x11, 0x22, 0x33, 0x44]) busy (fun t => decide (t.result = .bytes f1x)) = true := by
  decide +kernel

theorem test_pseudoFrameBadEtx :
    afterExec (.pseudoFrameBadEtx 0x2A 0x10 [0xAA]) busy (fun t => decide (t.result = .bytes f3t)) = true := by
  decide +kernel

/-- V120. -/
theorem test_addFrame_accumulates :
    afterExec (.addFrame 0x2A 0x10 [0xAA]) (st true true 64 [] (frameOf f0)) (fun t =>
      decide (arch t = (true, true, 64, [], [f0, f3]))) = true := by decide +kernel

theorem test_largePayload :
    afterExec (.largePayload 0xEE 0x0102 0x0304 [0x01]) busy (fun t =>
      decide (t.result = .bytes [0xEE, 0x02, 0x01, 0x04, 0x03, 0x01])) = true := by decide

theorem test_rep : afterExec (.rep 0xAB 3) busy (fun t => decide (t.result = .bytes [0xAB, 0xAB, 0xAB])) = true := by decide

/-! ### Witnesses: a state and operands that meet the hypotheses of each statement, clause by clause -/

/-- The state whose registry holds one pair. -/
def stReg : State := { st true true 64 [] [] with params := ⟨0xFF, 0x5A, 0x33, [(0x10, 0x2A)]⟩ }

/-- A transient state in the sequencer state `q`, at the candidate `F1` of a buffer. -/
def dpAt (q : SeqState) (isLast : Bool) (avail : Nat) : Datapath :=
  { Datapath.reset with
    seqState := q, isLast := isLast, avail := avail, header := headerAt f1, footer := footerAt f1 }

/-- A state that is the next one of an instruction, for the statements about a given next state. -/
def nextOf (i : Instr) (s : State) : State :=
  match exec i s with
  | .next t => t
  | _ => s

/-- The longest payload that a length field declares, and one byte more: the two cases of FramePseudoOperationsExpand and
WireFrameVerdict. -/
theorem witness_payload_lengths :
    (List.replicate 65535 (0 : Byte)).length ≤ 65535 ∧ 65535 < (List.replicate 65536 (0 : Byte)).length := by
  simp only [List.length_replicate]
  decide

theorem witness_InitValidConfiguresAndEmpties :
    ((0x00#8 = 0x00#8 ∨ 0x00#8 = 0x01#8) ∧ 1 ≤ 1) ∧ ((0x01#8 = 0x00#8 ∨ 0x01#8 = 0x01#8) ∧ 1 ≤ 4294967295) := by decide

theorem witness_InitInvalidRaisesConfigError :
    ((0x02#8 ≠ 0x00#8 ∧ 0x02#8 ≠ 0x01#8) ∨ 64 = 0) ∧ ((0xFF#8 ≠ 0x00#8 ∧ 0xFF#8 ≠ 0x01#8) ∨ 1 = 0) ∧
    ((0x01#8 ≠ 0x00#8 ∧ 0x01#8 ≠ 0x01#8) ∨ 0 = 0) := by decide

theorem witness_ReinitEqualsResetThenInit :
    (st true true 64 [0xFF, 0x5A] (frameOf f1)).resetReq = false ∧ (0x01#8 = 0x00#8 ∨ 0x01#8 = 0x01#8) ∧ 1 ≤ 1 := by decide

theorem witness_AddDataWritesPassesTrimsQueues :
    (st true true 64 [0xFF, 0x5A] []).configured = true ∧ [0xAA#8].length ≤ 65535 ∧ f3 = frameBytes tp 0x2A 0x10 [0xAA] := by
  decide +kernel

theorem witness_UnconfiguredOperationsAnswerNotConfigured : State.reset.configured = false := rfl

theorem witness_GetFramesReturnsAndEmptiesQueue : (st true true 64 [] (frameOf f1)).configured = true := rfl

/-- Reserved bytes of three rows between the drains. -/
theorem witness_SecondDrainIsEmpty_reserved :
    (st true false 1 [] (frameOf f1)).configured = true ∧
    ∀ i ∈ ([.reservedOp03, .reservedOp04 3, .reservedOp80 127] : List Instr), ReservedRow i := by
  refine ⟨rfl, fun i hi => ?_⟩
  simp only [List.mem_cons, List.not_mem_nil, or_false] at hi
  rcases hi with rfl | rfl | rfl <;> simp [ReservedRow]

/-- A trim, a drain, a micro-operation and a valid `INIT` at the least limit between the drains. -/
theorem witness_SecondDrainIsEmpty_between :
    let s := st true true 64 [] (frameOf f1)
    let mid : List Instr := [.trim f0 8, .getFrames, .readHeader f1, .init 0x01 1]
    s.configured = true ∧ (∀ i ∈ mid, BetweenDrains i) ∧
    runInstrs ([.getFrames] ++ mid) s = some ((runInstrs ([.getFrames] ++ mid) s).getD s) := by
  refine ⟨rfl, fun i hi => ?_, rfl⟩
  simp only [List.mem_cons, List.not_mem_nil, or_false] at hi
  rcases hi with rfl | rfl | rfl | rfl <;> simp [BetweenDrains]

theorem witness_ReservedOperationsAnswerBadOp :
    (3 ≤ (0x03#8).toNat ∧ (stIn [0x03, 0x02]).resetReq = false ∧ (stIn [0x03, 0x02]).input = 0x03 :: [0x02]) ∧
    (3 ≤ (0xFF#8).toNat ∧ (stIn [0xFF]).resetReq = false ∧ (stIn [0xFF]).input = 0xFF :: []) := by decide

/-- V118 at the limit, and V119. -/
theorem witness_EmptyChunkRescansOrDiscards :
    ((st true true 7 (f1.take 7) []).configured = true ∧ (st true true 7 (f1.take 7) []).memory = true ∧
      PendingCandidate tp (f1.take 7) ∧ (f1.take 7).length ≤ 7) ∧
    ((st true false 64 [] (frameOf f0)).configured = true ∧ (st true false 64 [] (frameOf f0)).memory = false) := by
  refine ⟨⟨rfl, rfl, .inr ⟨by decide, forall_marker (by decide), by decide⟩, by decide⟩, rfl, rfl⟩

/-- A candidate that is pending because of its declared length, one byte short of it. -/
theorem witness_pending_declared : PendingCandidate tp (f1.take 12) :=
  .inr ⟨by decide, forall_marker (by decide), by decide⟩

theorem witness_MemoryOffKeepsOnlyLatestFrame :
    (st true false 64 [0xFF] (frameOf f1)).configured = true ∧ (st true false 64 [0xFF] (frameOf f1)).memory = false ∧
    ([] : Bytes).length ≤ 65535 ∧ [0xAA#8].length ≤ 65535 := by decide

theorem witness_MemoryOnAccumulatesInOrder :
    (st true true 1 [] []).configured = true ∧ (st true true 1 [] []).memory = true ∧ (st true true 1 [] []).buf = [] ∧
    (st true true 1 [] []).queue = [] ∧ ([] : Bytes).length ≤ 65535 ∧ [0xAA#8].length ≤ 65535 := by decide

theorem witness_FramesDeliveredOnceInOrder :
    let s := st true true 64 [0xFF] (frameOf f1)
    s.configured = true ∧ exec .getFrames s = .next (nextOf .getFrames s) ∧ s.memory = true ∧
      exec (.addData f0) s = .next (nextOf (.addData f0) s) := ⟨rfl, rfl, rfl, rfl⟩

theorem witness_ComputeCrcStreamsLinearAndResidue :
    ([0x12, 0x34, 0x56] : Bytes).length = ([0xAB, 0xCD, 0xEF] : Bytes).length := rfl

theorem witness_ComputeCrcDetectsOneByteChange : (0x44 : Byte) ≠ 0x45 := by decide

theorem witness_Le16IsLittleEndian : 0 + 1 < ([0x04, 0x00] : Bytes).length := by decide

theorem witness_ReadHeaderExtractsFixedOffsets : 6 ≤ (f0.take 6).length ∧ (f0.take 5).length < 6 := by decide

theorem witness_ReadFooterFollowsDeclaredLength :
    9 + (le16 f0 4).toNat ≤ f0.length ∧ 9 + (le16 f1 4).toNat ≤ f1.length := by decide

theorem witness_CodecsReturnNoneOutsidePreconditions :
    (f1.take 12).length < 9 + (le16 (f1.take 12) 4).toNat ∧ (f0.take 8).length < 9 + (le16 (f0.take 8) 4).toNat ∧
    ([0, 0, 0, 0] : Bytes).length < 5 := by decide

theorem witness_DecodeLargeExtractsMetadata : 5 ≤ ([0x07, 0x02, 0x00, 0x05, 0x00] : Bytes).length := by decide

theorem witness_DispatchAnswersRegistryOrSentinel :
    ((0x77, 0x07) : Byte × Byte) ∉ stReg.params.registry ∧ ((0x10, 0x2A) : Byte × Byte) ∈ stReg.params.registry := by decide

/-- V85: the marker at the cursor, and none beyond it. -/
theorem witness_FindNextSyncIsLeastFromCursor :
    findNextSync tp [0x00, 0xFF, 0x5A, 0x01] 1 = some 1 ∧ findNextSync tp [0x00, 0xFF, 0x5A, 0x01] 2 = none := by decide

/-- V83, V82. -/
theorem witness_FindLastSyncIsGreatest : findLastSync tp [0xFF, 0x5A] = some 0 ∧ findLastSync tp [0xFF] = none := by decide

/-- Each of the five tests of the verdict decides some candidate. -/
theorem witness_ParseCandidateReportsFirstFailure :
    (f0.take 8).length < 9 ∧ (f1.take 12).length < 9 + (le16 (f1.take 12) 4).toNat ∧
    (9 + (le16 f1x 4).toNat ≤ f1x.length ∧ computeCrc (slice f1x 2 (6 + 4)) ≠ le16 f1x (6 + 4)) ∧
    (9 + (le16 f3t 4).toNat ≤ f3t.length ∧ computeCrc (slice f3t 2 (6 + 1)) = le16 f3t (6 + 1) ∧
      byteAt f3t (8 + 1) ≠ tp.etx) ∧
    (9 + (le16 f0 4).toNat ≤ f0.length ∧ computeCrc (slice f0 2 (6 + 0)) = le16 f0 (6 + 0) ∧
      byteAt f0 (8 + 0) = tp.etx) := by decide +kernel

/-- Each verdict on a frame on the wire is reached. -/
theorem witness_WireFrameVerdict :
    computeCrc (frameBody 0x2A 0x10 [0xAA]) ≠ 0xBF15 ∧ computeCrc (frameBody 0x2A 0x10 [0xAA]) = 0xBF14 ∧
    (0xCC : Byte) ≠ tp.etx ∧ (0x33 : Byte) = tp.etx := by decide +kernel

theorem witness_MinFrameLenSixToNineAgree : (6 ≤ 6 ∧ 6 ≤ 9) ∧ (6 ≤ 9 ∧ 9 ≤ 9) := by decide

theorem witness_SequencerFollowsTransitionTable_search :
    ((dpAt .scanning false 0).seqState = .scanning ∧ findNextSync tp [0xFF] (dpAt .scanning false 0).cursor = none) ∧
    ((dpAt .scanning false 0).seqState = .scanning ∧ findNextSync tp f1 (dpAt .scanning false 0).cursor = some 0) := by
  decide

theorem witness_SequencerFollowsTransitionTable_lengths :
    ((dpAt .headerCheck true 8).seqState = .headerCheck ∧ (dpAt .headerCheck true 8).avail < 9 ∧
      (dpAt .headerCheck true 8).isLast = true) ∧
    ((dpAt .headerCheck false 8).avail < 9 ∧ (dpAt .headerCheck false 8).isLast = false) ∧
    9 ≤ (dpAt .headerCheck false 9).avail ∧
    ((dpAt .lengthCheck true 12).seqState = .lengthCheck ∧
      (dpAt .lengthCheck true 12).avail < 9 + (dpAt .lengthCheck true 12).header.payloadLength.toNat ∧
      (dpAt .lengthCheck true 12).isLast = true) ∧
    (dpAt .lengthCheck false 12).isLast = false ∧
    9 + (dpAt .lengthCheck true 13).header.payloadLength.toNat ≤ (dpAt .lengthCheck true 13).avail := by decide

theorem witness_SequencerFollowsTransitionTable_integrity :
    ((dpAt .checksumCheck true 13).seqState = .checksumCheck ∧
      computeCrc (slice (f1.set 6 0x12) 2 10) ≠ (dpAt .checksumCheck true 13).footer.crc) ∧
    computeCrc (slice f1 2 10) = (dpAt .checksumCheck true 13).footer.crc ∧
    ((dpAt .terminatorCheck true 13).seqState = .terminatorCheck ∧
      (dpAt .terminatorCheck true 13).footer.terminator ≠ (⟨0xFF, 0x5A, 0x34, []⟩ : Params).etx) ∧
    (dpAt .terminatorCheck true 13).footer.terminator = tp.etx ∧ (dpAt .decode true 13).seqState = .decode ∧
    Datapath.reset.seqState = .idle := by decide +kernel

theorem witness_PassTerminates : passFuel f0 ≤ passFuel f0 ∧ f0.length + 1 ≤ f0.length + 1 :=
  ⟨Nat.le_refl _, Nat.le_refl _⟩

theorem witness_BatchFramesAreSound : ∀ f ∈ frameOf f1, f ∈ (parsePass tp f1).batch := by decide +kernel

/-- The batch of V50 has two frames to compare. -/
theorem witness_BatchSpansAreDisjointAndInOrder : (parsePass tp (f0 ++ f3)).batch.length = 2 := by decide +kernel

theorem witness_FrameRoundTripsThroughPass : ([] : Bytes).length ≤ 65535 := by decide

/-- P1: `F1` cut after its seventh byte, with the least limit that holds the frame. -/
theorem witness_SplitFrameIsReassembled :
    let s := st true true 13 [] []
    let p : Bytes := [0x11, 0x22, 0x33, 0x44]
    let chunks := [f1.take 7, f1.drop 7]
    s.configured = true ∧ s.memory = true ∧ s.buf = [] ∧ s.queue = [] ∧ p.length ≤ 65535 ∧
    chunks.flatten = frameBytes s.params 3 0 p ∧ (frameBytes s.params 3 0 p).length ≤ s.bufferLimit ∧
    (∀ k, (chunks.take k).flatten.length ≠ 1) ∧
    (∀ k, (chunks.take k).flatten.length < (frameBytes s.params 3 0 p).length →
      ∀ j, MarkerIndex s.params (chunks.take k).flatten j → j = 0) := by
  refine ⟨rfl, rfl, rfl, rfl, by decide, by decide +kernel, by decide +kernel, ?_, ?_⟩
  · rintro (_ | _ | _ | k) <;> simp [f1]
  · rintro (_ | _ | _ | k) h
    · exact forall_marker (by decide)
    · exact forall_marker (by decide)
    · exact absurd h (by decide +kernel)
    · exact absurd h (by simp [f1, frameBytes, frameWire])

/-- V52. -/
theorem witness_GarbageBetweenFramesIsSkipped :
    let p : Bytes := [0x11, 0x22, 0x33, 0x44]
    let g : Bytes := [0xDE, 0xAD, 0xBE, 0xEF]
    let A := frameBytes tp 3 0 p
    let B := frameBytes tp 0x2A 0x10 [0xAA]
    p.length ≤ 65535 ∧ [0xAA#8].length ≤ 65535 ∧
    ∀ j, MarkerIndex tp (A ++ g ++ B) j → ¬ (A.length ≤ j ∧ j < A.length + g.length) :=
  ⟨by decide, by decide, forall_marker (by decide +kernel)⟩

/-- V54: the second payload byte of `F1` changed. -/
theorem witness_CorruptedPayloadIsRejected :
    let p : Bytes := [0x11, 0x22, 0x33, 0x44]
    let A := (frameBytes tp 3 0 p).set (6 + 1) 0x23
    let B := frameBytes tp 1 0 []
    p.length ≤ 65535 ∧ ([] : Bytes).length ≤ 65535 ∧ 1 < p.length ∧ (0x23 : Byte) ≠ 0x22 ∧
    ∀ j, MarkerIndex tp (A ++ B) j → ¬ (1 ≤ j ∧ j < A.length) :=
  ⟨by decide, by decide, by decide, by decide, forall_marker (by decide +kernel)⟩

theorem witness_BufferBoundAfterAddData :
    (let s := st true true 8 [] []
     s.configured = true ∧ exec (.addData f1) s = .next (nextOf (.addData f1) s)) ∧
    ∀ j, ¬ MarkerIndex tp [0x12, 0x34, 0x56, 0xFF] j :=
  ⟨⟨rfl, rfl⟩, fun j hj => forall_marker (p := fun _ => False) (by decide) j hj⟩

theorem witness_TrimKeepsTailAndCutsMarker :
    (7 < (f1.take 8).length ∧ (f1.take 8).length ≤ 8) ∧ PendingCandidate tp (f1.take 8) ∧ 7 < (f1.take 8).length :=
  ⟨by decide, .inr ⟨by decide, forall_marker (by decide), by decide⟩, by decide⟩

theorem witness_HostOperationDecodesFromItsWord :
    (Instr.format (.init 1 4294967295) = .hostOp ∧ (Instr.init 1 4294967295).wellFormed = true ∧
      encode tp (.init 1 4294967295) = some [0x00, 0x01, 0xFF, 0xFF, 0xFF, 0xFF]) ∧
    (Instr.format (.addData []) = .hostOp ∧ (Instr.addData []).wellFormed = true ∧
      encode tp (.addData []) = some [0x01, 0x00, 0x00, 0x00, 0x00]) := by decide

theorem witness_DecodedHostOperationHasItsWord : decode [0x7F, 0x02] = .ok (.reservedOp40 63, [0x02]) := by decide

theorem witness_WireFormatsDecodeFromTheirBytes :
    encode tp (.frame 1 0 [] 0x1CBB 0x33) = some f0 ∧ (Instr.large 7 2 5 (List.replicate 4092 0xAB)).wellFormed = true ∧
    encode tp (.large 7 2 5 (List.replicate 4092 0xAB)) =
      some ([0x07, 0x02, 0x00, 0x05, 0x00] ++ List.replicate 4092 0xAB) ∧ Instr.classUnknown11.format = .cls := by
  refine ⟨by decide, ?_, rfl, rfl⟩
  simp only [Instr.wellFormed, List.length_replicate]
  decide

theorem witness_StepRunsDecodedOperation :
    ((stIn [0x02]).resetReq = false ∧ decode (stIn [0x02]).input = .ok (.getFrames, [])) ∧
    ((stIn [0x00, 0x01]).resetReq = false ∧ decode (stIn [0x00, 0x01]).input = .error .truncatedInit) ∧
    ({ stIn [] with resetReq := true } : State).resetReq = true := by decide

/-- The invariant holds of a state with a full buffer, and a step is taken. -/
theorem witness_StepKeepsArchitecturalBounds :
    (let s : State := { st true true 2 [0xFF, 0x5A] [] with input := [0x02] }
     s.Inv ∧ step s = .next { s with input := [], responses := [.frames []] }) ∧ (stIn [0x02]).Inv := by
  refine ⟨⟨⟨rfl, fun _ => ⟨by decide, by decide, fun f hf => ?_⟩⟩, rfl⟩, rfl, fun h => ?_⟩
  · cases hf
  · cases h

theorem witness_OnlyInitAndResetChangeConfiguration :
    exec (.trim f0 8) (st true true 64 [] []) = .next (nextOf (.trim f0 8) (st true true 64 [] [])) ∧
    (∀ m L, Instr.trim f0 8 ≠ .init m L) ∧ Instr.trim f0 8 ≠ .reset :=
  ⟨rfl, fun _ _ h => (nomatch h), fun h => (nomatch h)⟩

theorem witness_MicroOperationsLeaveArchitectureAlone :
    exec (.readHeader f1) busy = .next (nextOf (.readHeader f1) busy) ∧ Instr.format (.readHeader f1) ≠ .hostOp ∧
    Instr.readHeader f1 ≠ .reset ∧ (∀ a b c, Instr.readHeader f1 ≠ .addFrame a b c) ∧
    (∀ r L, Instr.readHeader f1 ≠ .trim r L) :=
  ⟨rfl, by decide, fun h => (nomatch h), fun _ _ _ h => (nomatch h), fun _ _ h => (nomatch h)⟩

end Sys2Proof.Tests
end

section
/-!
The rules of one step: which of its three cases applies, and what it then runs (00_scope R2, 20_memory R63).
-/

namespace Sys2Proof.Machine

open Sys2Proof

/-- A pending reset is served before the input is looked at (log 11). -/
theorem step_of_reset_pending {s : State} (hreset : s.resetReq = true) : step s = exec .reset s := by
  rw [step, if_pos hreset]

theorem step_of_decode_ok {s : State} (hreset : s.resetReq = false) {i : Instr} {rest : Bytes}
    (hdecode : decode s.input = .ok (i, rest)) : step s = exec i { s with input := rest } := by
  simp only [step, hreset, hdecode, Bool.false_eq_true, if_false]

/-- The machine waits while no whole operation word is there (log 8). -/
theorem step_of_decode_error {s : State} (hreset : s.resetReq = false) {e : DecodeReject}
    (hdecode : decode s.input = .error e) : step s = .next s := by
  simp only [step, hreset, hdecode, Bool.false_eq_true, if_false]

end Sys2Proof.Machine
end

section
/-!
The scope's statements: the 16-bit field (00_scope R9) and the step (00_scope R2).
-/

namespace Sys2Proof.Proofs

open Sys2Proof Sys2Proof.Machine

/-- Settles O19: `le16` weighs the two total reads, and in range a total read is the list's own. -/
theorem le16IsLittleEndian : Obligations.Le16IsLittleEndian := by
  intro b i h
  rw [le16_toNat, byteAt_eq_getElem b (Nat.lt_of_succ_lt h), byteAt_eq_getElem b h]

/-- Settles O53, from the rule of each of the step's three cases. -/
theorem stepRunsDecodedOperation : Obligations.StepRunsDecodedOperation := fun _ =>
  ⟨fun hreset _ _ hdecode => step_of_decode_ok hreset hdecode,
    fun hreset _ hdecode => step_of_decode_error hreset hdecode,
    step_of_reset_pending⟩

end Sys2Proof.Proofs
end

section
/-!
What one execution can do to a state: the inversion of `exec`, said once for all instructions, and the two frames that
follow from it (10_state R20, R30, R36).
-/

namespace Sys2Proof.Machine

open Sys2Proof

/-- A host operation word, or `ADD_FRAME`, which abbreviates one (R84, R91). -/
def IsHostOperation (i : Instr) : Prop := i.format = .hostOp ∨ ∃ a b c, i = .addFrame a b c

/-- The effects that an instruction can have on `s`. -/
inductive ExecEffect (s : State) : Instr → State → Prop where
  /-- Only transient state, the returned value and the counter of the free values are written. -/
  | transient {i : Instr} (d : Datapath) (r : MicroResult) (k : Nat) (hformat : i.format ≠ .hostOp) :
      ExecEffect s i { s with dp := d, result := r, freeCount := k }
  /-- `INIT` with a valid configuration (R190). -/
  | configure {m : Byte} {L : Nat} (memory : Bool) (hlimit : 1 ≤ L) : ExecEffect s (.init m L) (configure memory L s)
  /-- `INIT` with an invalid configuration (R191). -/
  | configError {m : Byte} {L : Nat} : ExecEffect s (.init m L) (raiseConfigError s)
  /-- The four steps of `ADD_DATA` (R197). -/
  | ingest {i : Instr} (chunk : Bytes) (hhost : IsHostOperation i) : ExecEffect s i (ingest chunk s)
  /-- A drain of the queue (R198). -/
  | drain : ExecEffect s .getFrames (respond (.frames s.queue) { s with queue := [] })
  /-- A response and nothing else (R201, R202). -/
  | respond {i : Instr} (r : Response) (hhost : IsHostOperation i) : ExecEffect s i (respond r s)
  /-- `TRIM` (R173). -/
  | trim (retained : Bytes) (limit : Nat) :
      ExecEffect s (.trim retained limit) { s with buf := trimTail retained limit }
  /-- The reset event (R240). -/
  | reset {t : State} (hreset : execReset s = .next t) : ExecEffect s .reset t

/-! ### The effect of each shared operation -/

theorem execInit_effect {m : Byte} {L : Nat} {s t : State} (h : execInit m L s = .next t) :
    ExecEffect s (.init m L) t := by
  unfold execInit at h
  split at h
  next hvalid =>
    cases h
    simp only [validConfig, Bool.and_eq_true, decide_eq_true_eq] at hvalid
    exact .configure _ hvalid.2
  next =>
    cases h
    exact .configError

theorem execAddData_effect {i : Instr} (hhost : IsHostOperation i) {chunk : Bytes} {s t : State}
    (h : execAddData chunk s = .next t) : ExecEffect s i t := by
  unfold execAddData at h
  split at h
  · cases h
    exact .ingest chunk hhost
  · cases h
    exact .respond _ hhost

theorem execAddFrame_effect {a b : Byte} {p : Bytes} {s t : State} (h : execAddFrame a b p s = .next t) :
    ExecEffect s (.addFrame a b p) t := by
  unfold execAddFrame at h
  split at h
  · exact execAddData_effect (.inr ⟨a, b, p, rfl⟩) h
  · cases h

theorem execGetFrames_effect {s t : State} (h : execGetFrames s = .next t) : ExecEffect s .getFrames t := by
  unfold execGetFrames at h
  split at h
  · cases h
    exact .drain
  · cases h
    exact .respond _ (.inl rfl)

/-- An execution that answers a next state has one of the eight effects. -/
theorem exec_effect {i : Instr} {s t : State} (h : exec i s = .next t) : ExecEffect s i t := by
  cases i with
  | init => exact execInit_effect h
  | addData => exact execAddData_effect (.inl rfl) h
  | getFrames => exact execGetFrames_effect h
  | reservedOp03 | reservedOp04 | reservedOp08 | reservedOp10 | reservedOp20 | reservedOp40 | reservedOp80 =>
    cases h
    exact .respond _ (.inl rfl)
  | frame | readHeader | readFooter | decodeLarge | pseudoFrame | pseudoFrameBadCrc | pseudoFrameBadEtx =>
    simp only [exec, execFrame, execReadHeader, execReadFooter, execDecodeLarge, execPseudoFrame, execPseudoFrameBadCrc,
      execPseudoFrameBadEtx, expandFrame] at h
    split at h <;> cases h <;> exact .transient _ _ _ (by simp [Instr.format])
  | addFrame => exact execAddFrame_effect h
  | trim =>
    cases h
    exact .trim _ _
  | reset => exact .reset h
  | large | classLog | classHighFrequency | classNmeaStandard | classNmeaProprietary | classThirdParty | classCommand
  | classUnknown05 | classUnknown06 | classUnknown08 | classUnknown11 | classUnknown12 | classUnknown14
  | classUnknown18 | classUnknown20 | classUnknown40 | classUnknown80
  | crcReset | crcUpdate | computeCrc | isLarge | classToType | dispatch | findLastSync | findNextSync
  | parseCandidate | parsePass | largePayload | rep =>
    cases h
    exact .transient _ _ _ (by simp [Instr.format])

/-! ### The frames -/

theorem ExecEffect.params_eq {i : Instr} {s t : State} (h : ExecEffect s i t) : t.params = s.params := by
  cases h with
  | reset hreset => cases hreset; rfl
  | _ => rfl

/-- Only `INIT` and the reset event write the control fields (R30). -/
theorem ExecEffect.control_eq {i : Instr} {s t : State} (h : ExecEffect s i t) (hinit : ∀ m L, i ≠ .init m L)
    (hreset : i ≠ .reset) : t.configured = s.configured ∧ t.memory = s.memory ∧ t.bufferLimit = s.bufferLimit := by
  cases h with
  | configure | configError => exact absurd rfl (hinit _ _)
  | reset => exact absurd rfl hreset
  | transient | ingest | drain | respond | trim => exact ⟨rfl, rfl, rfl⟩

/-- An instruction that is no host operation and stores nothing leaves the architectural state alone (R36). -/
theorem ExecEffect.sameArch {i : Instr} {s t : State} (h : ExecEffect s i t) (hhost : ¬ IsHostOperation i)
    (htrim : ∀ r L, i ≠ .trim r L) (hreset : i ≠ .reset) : SameArch s t := by
  cases h with
  | transient => exact ⟨rfl, rfl, rfl, rfl, rfl, rfl, rfl, rfl, rfl⟩
  | configure | configError | drain => exact absurd (.inl rfl) hhost
  | ingest _ hi | respond _ hi => exact absurd hi hhost
  | trim => exact absurd rfl (htrim _ _)
  | reset => exact absurd rfl hreset

theorem SameArch.mem_eq {s t : State} (h : SameArch s t) : t.mem = s.mem := by
  obtain ⟨-, -, -, hbuf, -⟩ := h
  exact congrArg Memory.cells hbuf

end Sys2Proof.Machine
end

section
/-!
The run of the sequencer is the pure pass (44_frame_assembler R174), by induction on the visits of the search; and the run
ends in `Idle` (R175).
-/

namespace Sys2Proof.Machine

open Sys2Proof

/-- The three products of a pass, as the sequencer holds them (R155). -/
def Datapath.products (d : Datapath) : PassResult := ⟨d.batch, d.retained, d.diag⟩

/-! ### One visit of the loop -/

theorem passLoop_none {P : Params} {buf : Bytes} {last : Option Nat} {fuel cursor : Nat} {batch : List Frame}
    {diag : List DiagRecord} (hm : findNextSync P buf cursor = none) :
    passLoop P buf last (fuel + 1) cursor batch diag = ⟨batch, [], diag⟩ := by
  simp only [passLoop, hm]

theorem rawBytes_length_of_complete {P : Params} {c : Bytes} {f : Frame} (h : parseCandidate P c = .complete f) :
    f.rawBytes.length = 9 + declaredLength c := by
  obtain ⟨hlen, -, -, rfl⟩ := parseCandidate_eq_complete h
  rw [buildFrame_rawBytes, slice_length]
  omega

/-! ### Runs of the sequencer -/

theorem seqRun_of_idle {P : Params} {buf : Bytes} {d : Datapath} (h : d.seqState = .idle) (n : Nat) :
    seqRun P buf n d = d := by
  rw [seqRun_eq_iterate, iterate_idle P buf d h]

theorem seqRun_add (P : Params) (buf : Bytes) (k n : Nat) (d : Datapath) :
    seqRun P buf (k + n) d = seqRun P buf n (seqRun P buf k d) := by
  simp only [seqRun_eq_iterate]
  rw [Nat.add_comm, Function.iterate_add_apply]

/-- A search that finds no marker is the end of the pass. -/
theorem seqRun_scanning_none {P : Params} {buf : Bytes} {d : Datapath} (hscan : d.seqState = .scanning)
    (hm : findNextSync P buf d.cursor = none) (n : Nat) :
    seqRun P buf (n + 1) d = { d with retained := [], seqState := .idle } := by
  rw [seqRun, if_neg (by simp [hscan]), seqStep_scanning_none P buf d hscan hm, seqRun_of_idle rfl]

/-- The sequencer's visit of a candidate and the loop's agree: both end with the same products, or both go on from the same
place behind the marker. -/
theorem passLoop_visit {P : Params} {buf : Bytes} {m : Nat} {d e : Datapath} (visits : Nat)
    (hm : findNextSync P buf d.cursor = some m) (hvisit : VisitDone buf m d e (parseCandidate P (buf.drop m))) :
    (e.seqState = .idle ∧ e.products = passLoop P buf d.lastSyncIndex (visits + 1) d.cursor d.batch d.diag) ∨
    (e.seqState = .scanning ∧ m < e.cursor ∧ passLoop P buf e.lastSyncIndex visits e.cursor e.batch e.diag =
      passLoop P buf d.lastSyncIndex (visits + 1) d.cursor d.batch d.diag) := by
  obtain ⟨-, hlast, hvisit⟩ := hvisit
  simp only [passLoop, hm]
  cases hv : parseCandidate P (buf.drop m) with
  | missingBytes =>
    rw [hv] at hvisit
    obtain ⟨hbatch, hdiag, hvisit⟩ := hvisit
    split at hvisit
    next hl =>
      obtain ⟨hidle, hretained⟩ := hvisit
      exact .inl ⟨hidle, by simp [hl, Datapath.products, hbatch, hdiag, hretained]⟩
    next hl =>
      obtain ⟨hscan, hcursor⟩ := hvisit
      exact .inr ⟨hscan, by omega, by simp [hl, hlast, hbatch, hdiag, hcursor]⟩
  | checksumError | terminatorError =>
    rw [hv] at hvisit
    obtain ⟨hbatch, hdiag, hscan, hcursor⟩ := hvisit
    exact .inr ⟨hscan, by omega, by simp [hlast, hbatch, hdiag, hcursor]⟩
  | complete f =>
    rw [hv] at hvisit
    obtain ⟨hbatch, hdiag, hscan, hcursor⟩ := hvisit
    have hlength := rawBytes_length_of_complete hv
    exact .inr ⟨hscan, by omega, by simp [hlast, hbatch, hdiag, hcursor]⟩

/-- From `Scanning`, enough visits to search the rest of the buffer, of six transitions each, end in `Idle` with the products
of the loop. -/
theorem seqRun_eq_passLoop (P : Params) (buf : Bytes) (visits n : Nat) (d : Datapath) (hscan : d.seqState = .scanning)
    (hpos : 0 < visits) (hvisits : buf.length < visits + d.cursor) (hn : 6 * visits ≤ n) :
    (seqRun P buf n d).seqState = .idle ∧
    (seqRun P buf n d).products = passLoop P buf d.lastSyncIndex visits d.cursor d.batch d.diag := by
  induction visits generalizing n d with
  | zero => omega
  | succ visits ih =>
    cases hm : findNextSync P buf d.cursor with
    | none =>
      obtain ⟨n, rfl⟩ := Nat.exists_eq_add_of_le' (show 1 ≤ n by omega)
      rw [seqRun_scanning_none hscan hm, passLoop_none hm]
      exact ⟨rfl, rfl⟩
    | some m =>
      obtain ⟨hcursor, ⟨hinside, -⟩, -⟩ := (findNextSync_eq_some P buf d.cursor m).1 hm
      obtain ⟨k, -, hk, hvisit⟩ := seqStep_visit P buf d m hscan hm
      obtain ⟨n, rfl⟩ := Nat.exists_eq_add_of_le (show k ≤ n by omega)
      rw [← seqRun_eq_iterate] at hvisit
      rw [seqRun_add]
      obtain ⟨hidle, hproducts⟩ | ⟨hscan, hbehind, hloop⟩ := passLoop_visit visits hm hvisit
      · rw [seqRun_of_idle hidle]
        exact ⟨hidle, hproducts⟩
      · rw [← hloop]
        exact ih n _ hscan (by omega) (by omega) (by omega)

/-- A pass of at least `passFuel` transitions is over, with the products of the pure pass (R174, R175). -/
theorem seqRun_seqStart (P : Params) (buf : Bytes) (d : Datapath) {n : Nat} (hn : passFuel buf ≤ n) :
    (seqRun P buf n (seqStart P buf d)).seqState = .idle ∧
    (seqRun P buf n (seqStart P buf d)).products = parsePass P buf :=
  seqRun_eq_passLoop P buf (buf.length + 1) n (seqStart P buf d) rfl (by omega) (by omega) hn

@[simp] theorem runPass_seqState (P : Params) (buf : Bytes) (d : Datapath) : (runPass P buf d).seqState = .idle :=
  (seqRun_seqStart P buf d le_rfl).1

theorem runPass_products (P : Params) (buf : Bytes) (d : Datapath) : (runPass P buf d).products = parsePass P buf :=
  (seqRun_seqStart P buf d le_rfl).2

theorem runPass_batch (P : Params) (buf : Bytes) (d : Datapath) : (runPass P buf d).batch = (parsePass P buf).batch :=
  congrArg PassResult.batch (runPass_products P buf d)

end Sys2Proof.Machine
end

section
/-!
What the pure pass produces (44_frame_assembler R161, R178): every frame is the verdict on a candidate at a marker, and what
is retained is nothing or the incomplete candidate at the last marker.
-/

namespace Sys2Proof.Machine

open Sys2Proof

/-- The loop adds only frames that `PARSE_CANDIDATE` completes at a marker: the visits that add none are the end of the pass
(`case1` to `case3`) and the skips of one byte (`case4` to `case6`). -/
theorem passLoop_batch {P : Params} {buf : Bytes} {last : Option Nat} {fuel cursor : Nat} {batch : List Frame}
    {diag : List DiagRecord} {f : Frame} (hf : f ∈ (passLoop P buf last fuel cursor batch diag).batch) :
    f ∈ batch ∨ ∃ m, MarkerIndex P buf m ∧ parseCandidate P (buf.drop m) = .complete f := by
  fun_induction passLoop P buf last fuel cursor batch diag with
  | case1 | case2 | case3 => exact .inl hf
  | case4 | case5 | case6 =>
    rename_i ih
    exact ih hf
  | case7 fuel cursor batch diag m hm g hg ih =>
    obtain hf | hf := ih hf
    · obtain hf | hf := List.mem_append.1 hf
      · exact .inl hf
      · cases List.mem_singleton.1 hf
        obtain ⟨-, hmarker, -⟩ := (findNextSync_eq_some P buf cursor m).1 hm
        exact .inr ⟨m, hmarker, hg⟩
    · exact .inr hf

/-- The loop retains bytes only where it ends at the last marker with an incomplete candidate (`case3`). -/
theorem passLoop_retained (P : Params) (buf : Bytes) (last : Option Nat) (fuel cursor : Nat) (batch : List Frame)
    (diag : List DiagRecord) :
    (passLoop P buf last fuel cursor batch diag).retained = [] ∨
    ∃ m, last = some m ∧ parseCandidate P (buf.drop m) = .missingBytes ∧
      (passLoop P buf last fuel cursor batch diag).retained = buf.drop m := by
  fun_induction passLoop P buf last fuel cursor batch diag with
  | case1 | case2 => exact .inl rfl
  | case3 _ _ _ _ m _ hv hlast => exact .inr ⟨m, hlast, hv, rfl⟩
  | case4 | case5 | case6 | case7 =>
    rename_i ih
    exact ih

theorem findLastSync_eq_some {P : Params} {buf : Bytes} {m : Nat} (h : findLastSync P buf = some m) :
    MarkerIndex P buf m ∧ ∀ j, MarkerIndex P buf j → j ≤ m := by
  obtain ⟨k, rfl, hk, hlast⟩ := lastMarker_eq_some P buf 0 m h
  rw [Nat.zero_add]
  exact ⟨hk, hlast⟩

/-- An incomplete candidate at the last marker is one pending candidate (R38 (b)). -/
theorem pendingCandidate_drop {P : Params} {buf : Bytes} {m : Nat} (hlast : findLastSync P buf = some m)
    (hmissing : parseCandidate P (buf.drop m) = .missingBytes) : PendingCandidate P (buf.drop m) := by
  obtain ⟨hmarker, hgreatest⟩ := findLastSync_eq_some hlast
  refine .inr ⟨(markerIndex_drop P buf m 0).2 hmarker, fun i hi => ?_, .inr ((parseCandidate_eq_missing P _).1 hmissing)⟩
  have := hgreatest (m + i) ((markerIndex_drop P buf m i).1 hi)
  omega

theorem isLargeFlag_iff (n : U16) : isLargeFlag n = true ↔ 4096 < n.toNat := decide_eq_true_iff

/-- A frame is large exactly above the threshold (R79). -/
theorem buildFrame_format_eq_large (P : Params) (h : Header) (f : Footer) (p r : Bytes) :
    (buildFrame P h f p r).format = .large ↔ 4096 < h.payloadLength.toNat := by
  simp [buildFrame, isLargeFlag_iff]

theorem buildFrame_large (P : Params) (h : Header) (f : Footer) (p r : Bytes) :
    (buildFrame P h f p r).large = if 4096 < h.payloadLength.toNat then some (largeMetaAt p) else none := by
  simp [buildFrame, isLargeFlag_iff]

/-- A candidate that begins with the marker and gets the verdict `Complete` gives a sound frame (R178). -/
theorem frameSound_of_complete {P : Params} {c : Bytes} {f : Frame} (hmarker : MarkerIndex P c 0)
    (h : parseCandidate P c = .complete f) : FrameSound P f := by
  have hlen := rawBytes_length_of_complete h
  obtain ⟨-, hsync0, hsync1⟩ := hmarker
  obtain ⟨-, hcrc, hetx, rfl⟩ := parseCandidate_eq_complete h
  rw [buildFrame_rawBytes] at hlen
  have hbyte {k : Nat} (hk : k < 9 + declaredLength c) :
      byteAt (slice c 0 (9 + declaredLength c)) k = byteAt c k := by
    rw [byteAt_slice c hk, Nat.zero_add]
  have hword {k : Nat} (hk : k + 1 < 9 + declaredLength c) :
      le16 (slice c 0 (9 + declaredLength c)) k = le16 c k := by
    rw [le16_slice c hk, Nat.zero_add]
  have hspan {i : Nat} : slice (slice c 0 (9 + declaredLength c)) i (6 + declaredLength c) =
      slice c i (6 + declaredLength c) := by
    rw [slice_slice c (by omega), Nat.zero_add, Nat.zero_add]
  unfold FrameSound
  rw [buildFrame_rawBytes, hlen, show 9 + declaredLength c - 3 = 6 + declaredLength c by omega,
    show 9 + declaredLength c - 1 = 8 + declaredLength c by omega, hbyte (by omega), hbyte (by omega), hbyte (by omega),
    hbyte (by omega), hbyte (by omega), hword (by omega), hword (by omega), hspan, hspan]
  exact ⟨hsync0, hsync1, rfl, hcrc, hetx, rfl, rfl, rfl, rfl,
    buildFrame_format_eq_large P _ _ _ _, buildFrame_large P _ _ _ _⟩

end Sys2Proof.Machine
end

section
/-!
The invariant of the architectural state (10_state R30, R38): what each effect of a host operation makes of it.
-/

namespace Sys2Proof.Machine

open Sys2Proof

theorem decodeReserved_format (b : Byte) : (decodeReserved b).format = .hostOp := by
  unfold decodeReserved
  split_ifs <;> rfl

/-- Only host operations are fetched (R84, log 12). -/
theorem decode_format {bs rest : Bytes} {i : Instr} (h : decode bs = .ok (i, rest)) : i.format = .hostOp := by
  cases bs with
  | nil => cases h
  | cons op bs =>
    simp only [decode] at h
    split_ifs at h <;> cases h
    · rfl
    · rfl
    · rfl
    · exact decodeReserved_format op

theorem trimTail_length_le (retained : Bytes) (limit : Nat) : (trimTail retained limit).length ≤ limit := by
  unfold trimTail
  split
  · rw [List.length_drop]
    omega
  · omega

/-- Every frame of a batch is sound (R178). -/
theorem frameSound_of_mem_batch {P : Params} {buf : Bytes} {f : Frame} (hf : f ∈ (parsePass P buf).batch) :
    FrameSound P f := by
  obtain hf | ⟨m, hmarker, hcomplete⟩ := passLoop_batch hf
  · cases hf
  · exact frameSound_of_complete ((markerIndex_drop P buf m 0).2 hmarker) hcomplete

theorem mem_emit {memory : Bool} {queue batch : List Frame} {f : Frame} (hf : f ∈ emit memory queue batch) :
    f ∈ queue ∨ f ∈ batch := by
  cases memory with
  | true => exact List.mem_append.1 hf
  | false => exact .inr hf

/-! ### The effects on the invariant -/

/-- While unconfigured a state owes only the idle sequencer. -/
theorem State.Inv.of_unconfigured {s : State} (hidle : s.dp.seqState = .idle) (hconfigured : s.configured = false) :
    s.Inv :=
  ⟨hidle, fun h => by rw [hconfigured] at h; cases h⟩

theorem configure_inv (memory : Bool) {limit : Nat} (hlimit : 1 ≤ limit) (s : State) : (configure memory limit s).Inv :=
  ⟨rfl, fun _ => ⟨hlimit, Nat.zero_le _, nofun⟩⟩

theorem execReset_inv {s t : State} (h : execReset s = .next t) : t.Inv := by
  cases h
  exact .of_unconfigured rfl rfl

section

variable {s : State} (hinv : s.Inv)
include hinv

theorem respond_inv (r : Response) : (respond r s).Inv := hinv

theorem raiseConfigError_inv : (raiseConfigError s).Inv := .of_unconfigured hinv.1 rfl

theorem drain_inv : ({ s with queue := [] } : State).Inv := by
  obtain ⟨hidle, hbounds⟩ := hinv
  refine ⟨hidle, fun hconfigured => ?_⟩
  obtain ⟨hlimit, hbuf, -⟩ := hbounds hconfigured
  exact ⟨hlimit, hbuf, nofun⟩

/-- The pass ends idle, the trim bounds the buffer, and the queue grows by sound frames. -/
theorem ingest_inv (chunk : Bytes) : (ingest chunk s).Inv := by
  obtain ⟨-, hbounds⟩ := hinv
  refine ⟨runPass_seqState _ _ _, fun hconfigured => ?_⟩
  obtain ⟨hlimit, -, hqueue⟩ := hbounds hconfigured
  refine ⟨hlimit, trimTail_length_le _ _, fun f hf => ?_⟩
  obtain hold | hnew := mem_emit hf
  · exact hqueue f hold
  · rw [runPass_batch] at hnew
    exact frameSound_of_mem_batch hnew

/-- Every host operation keeps the invariant. -/
theorem exec_hostOp_inv {i : Instr} (hformat : i.format = .hostOp) {t : State} (h : exec i s = .next t) : t.Inv := by
  cases exec_effect h with
  | transient _ _ _ hne => exact absurd hformat hne
  | configure memory hlimit => exact configure_inv memory hlimit s
  | configError => exact raiseConfigError_inv hinv
  | ingest chunk => exact ingest_inv hinv chunk
  | drain => exact respond_inv (drain_inv hinv) _
  | respond r => exact respond_inv hinv r
  | trim | reset => cases hformat

end

end Sys2Proof.Machine
end

section
/-!
The state's statements: the frames of the instructions (10_state R20, R30, R36), what a pass retains (10_state R38 (b)) and
the invariant of a step (10_state R38 (a), (c), (d)).
-/

namespace Sys2Proof.Proofs

open Sys2Proof Sys2Proof.Machine

/-- Settles O58, from the effects that an execution can have. -/
theorem onlyInitAndResetChangeConfiguration : Obligations.OnlyInitAndResetChangeConfiguration :=
  fun _ _ _ h => ⟨(exec_effect h).params_eq, (exec_effect h).control_eq⟩

/-- Settles O59: the only effect left is the transient one, and memory is a view of the unchanged buffer. -/
theorem microOperationsLeaveArchitectureAlone : Obligations.MicroOperationsLeaveArchitectureAlone := by
  intro i s t h hformat hreset hframe htrim
  have hhost : ¬ IsHostOperation i := by
    rintro (hi | ⟨a, b, c, hi⟩)
    · exact hformat hi
    · exact hframe a b c hi
  have hsame := (exec_effect h).sameArch hhost htrim hreset
  exact ⟨hsame, fun a => by rw [hsame.mem_eq]⟩

/-- Settles O45: a pass retains nothing, or the candidate at the last marker, found incomplete. -/
theorem retainedBufferIsOnePendingCandidate : Obligations.RetainedBufferIsOnePendingCandidate := by
  intro P buf
  obtain hempty | ⟨m, hlast, hmissing, hretained⟩ := passLoop_retained P buf (findLastSync P buf) (buf.length + 1) 0 [] []
  · exact .inl hempty
  · rw [parsePass, hretained]
    exact pendingCandidate_drop hlast hmissing

/-- Settles O55, by the three cases of a step: the reset event, a fetched host operation, and waiting. -/
theorem stepKeepsArchitecturalBounds : Obligations.StepKeepsArchitecturalBounds := by
  intro s t hinv hstep
  cases hreset : s.resetReq with
  | true =>
    rw [step_of_reset_pending hreset] at hstep
    exact execReset_inv hstep
  | false =>
    cases hdecode : decode s.input with
    | ok word =>
      obtain ⟨i, rest⟩ := word
      rw [step_of_decode_ok hreset hdecode] at hstep
      have hfetched : ({ s with input := rest } : State).Inv := hinv
      exact exec_hostOp_inv hfetched (decode_format hdecode) hstep
    | error e =>
      rw [step_of_decode_error hreset hdecode] at hstep
      cases hstep
      exact hinv

end Sys2Proof.Proofs
end

section
/-!
What a read of the memory view answers (20_memory R50, R55).
-/

namespace Sys2Proof.Machine

open Sys2Proof

theorem read_cons_same (a : Nat) (b : Byte) (m : List Host.Cell) : Memory.read ((a, b) :: m) a = some b := by
  simp [Memory.read]

theorem read_cons_of_ne {a c : Nat} (hne : a ≠ c) (b : Byte) (m : List Host.Cell) :
    Memory.read ((a, b) :: m) c = Memory.read m c := by
  simp [Memory.read, hne]

/-- The cells stand at consecutive addresses, so the byte `i` places on is the one at `base + i`. -/
theorem read_cellsFrom (buf : Bytes) (base i : Nat) : Memory.read (Memory.cellsFrom base buf) (base + i) = buf[i]? := by
  induction buf generalizing base i with
  | nil => rfl
  | cons b bs ih =>
    cases i with
    | zero => exact read_cons_same base b _
    | succ i =>
      calc Memory.read ((base, b) :: Memory.cellsFrom (base + 1) bs) (base + (i + 1))
          = Memory.read (Memory.cellsFrom (base + 1) bs) (base + (i + 1)) := read_cons_of_ne (by omega) b _
        _ = Memory.read (Memory.cellsFrom (base + 1) bs) (base + 1 + i) := by rw [Nat.add_assoc, Nat.add_comm 1 i]
        _ = bs[i]? := ih (base + 1) i

theorem read_cells (buf : Bytes) (a : Nat) : Memory.read (Memory.cells buf) a = buf[a]? := by
  simpa [Memory.cells] using read_cellsFrom buf 0 a

end Sys2Proof.Machine
end

section
/-!
The statement about the memory view (20_memory R50, R55).
-/

namespace Sys2Proof.Proofs

open Sys2Proof Sys2Proof.Machine

/-- Settles O60: the view's cells start at address 0, one for each byte of the buffer. -/
theorem memoryReadIsBufferByte : Obligations.MemoryReadIsBufferByte :=
  fun s a => read_cells s.buf a

end Sys2Proof.Proofs
end

section
/-!
Bytes whose high bits are fixed and whose low bits are an operand (30_encoding R80, R84), and the 4-byte operands read from
their bytes: what the encodings of the host operations and of the class byte are made of.
-/

namespace Sys2Proof.Machine

open Sys2Proof

theorem toNat_append_eq_add {k w : Nat} (high : BitVec k) (low : BitVec w) :
    (high ++ low).toNat = high.toNat * 2 ^ w + low.toNat := by
  rw [BitVec.toNat_append, ← Nat.shiftLeft_add_eq_or_of_lt low.isLt, Nat.shiftLeft_eq]

/-- A word is the one of its row with its own low bits exactly when its high bits are the row's. -/
theorem append_eq_iff {k w : Nat} {high : BitVec k} {low : BitVec w} {b : BitVec (k + w)} :
    high ++ low = b ↔ b.toNat / 2 ^ w = high.toNat ∧ b.setWidth w = low := by
  constructor
  · rintro rfl
    refine ⟨?_, BitVec.setWidth_append_eq_right⟩
    rw [toNat_append_eq_add, Nat.mul_comm, Nat.mul_add_div (Nat.two_pow_pos w), Nat.div_eq_of_lt low.isLt, Nat.add_zero]
  · rintro ⟨hdiv, rfl⟩
    apply BitVec.eq_of_toNat_eq
    rw [toNat_append_eq_add, BitVec.toNat_setWidth, ← hdiv, Nat.div_add_mod']

@[simp] theorem le32_cons_succ (x : Byte) (b : Bytes) (i : Nat) : le32 (x :: b) (i + 1) = le32 b i := rfl

theorem le32_le (b : Bytes) (i : Nat) : le32 b i ≤ Config.maxOperand32 := by
  simp only [le32, Config.maxOperand32]
  omega

@[simp] theorem nat32Bytes_append_drop (n : Nat) (b : Bytes) : (nat32Bytes n ++ b).drop 4 = b := rfl

/-- The 4 bytes of an operand are those of the number read from them (R84). -/
theorem nat32Bytes_le32_append_drop {b : Bytes} (h : 4 ≤ b.length) : nat32Bytes (le32 b 0) ++ b.drop 4 = b := by
  obtain ⟨x0, x1, x2, x3, rest, rfl⟩ : ∃ x0 x1 x2 x3 rest, b = x0 :: x1 :: x2 :: x3 :: rest := by
    match b with
    | x0 :: x1 :: x2 :: x3 :: rest => exact ⟨x0, x1, x2, x3, rest, rfl⟩
  simp only [nat32Bytes, le32, byteAt, List.getD_cons_zero, List.getD_cons_succ, List.drop_succ_cons, List.drop_zero,
    List.cons_append, List.nil_append, List.cons.injEq, and_true, ← BitVec.toNat_inj, BitVec.toNat_ofNat]
  omega

theorem slice_append_drop (b : Bytes) {i j : Nat} (h : i ≤ j) : slice b i j ++ b.drop j = b.drop i := by
  rw [slice, ← Nat.add_sub_cancel' h, ← List.drop_drop, Nat.add_sub_cancel_left, List.take_append_drop]

end Sys2Proof.Machine
end

section
/-!
The words of the host operations (30_encoding R84): decoder and encoder agree on them, in both directions.
-/

namespace Sys2Proof.Machine

open Sys2Proof

/-! ### The reserved rows -/

theorem encode_decodeReserved (P : Params) {b : Byte} (h : 3 ≤ b.toNat) : encode P (decodeReserved b) = some [b] := by
  unfold decodeReserved
  split_ifs
  · obtain rfl : 3#8 = b := BitVec.eq_of_toNat_eq (by simp only [BitVec.toNat_ofNat]; omega)
    rfl
  all_goals
    refine congrArg (fun x => some [x]) (append_eq_iff.2 ⟨?_, rfl⟩)
    simp only [BitVec.toNat_ofNat]
    omega

theorem decodeReserved_wellFormed (b : Byte) : (decodeReserved b).wellFormed = true := by
  unfold decodeReserved
  split_ifs <;> rfl

theorem decodeReserved_of_encode {P : Params} {i : Instr} (hrow : ReservedRow i) {b : Byte}
    (hb : encode P i = some [b]) : 3 ≤ b.toNat ∧ decodeReserved b = i := by
  obtain rfl | ⟨low, rfl⟩ | ⟨low, rfl⟩ | ⟨low, rfl⟩ | ⟨low, rfl⟩ | ⟨low, rfl⟩ | ⟨low, rfl⟩ := hrow
  · cases hb
    exact ⟨by decide, rfl⟩
  all_goals
    simp only [encode, Option.some.injEq, List.cons.injEq, and_true] at hb
    obtain ⟨hhigh, rfl⟩ := append_eq_iff.1 hb
    simp only [BitVec.toNat_ofNat] at hhigh
    refine ⟨by omega, ?_⟩
    simp (disch := omega) only [decodeReserved, if_pos, if_neg]

/-! ### The words -/

/-- The word of a host operation (R84). -/
inductive HostWord : Instr → Bytes → Prop where
  | init (memory : Byte) {limit : Nat} (hlimit : limit ≤ Config.maxOperand32) :
      HostWord (.init memory limit) (0x00#8 :: memory :: nat32Bytes limit)
  | addData {chunk : Bytes} (hchunk : chunk.length ≤ Config.maxOperand32) :
      HostWord (.addData chunk) (0x01#8 :: (nat32Bytes chunk.length ++ chunk))
  | getFrames : HostWord .getFrames [0x02#8]
  | reserved {op : Byte} (hop : 3 ≤ op.toNat) {i : Instr} (hi : decodeReserved op = i) : HostWord i [op]

/-- The words are what the encoder gives for the well-formed host operations. -/
theorem hostWord_iff (P : Params) (i : Instr) (w : Bytes) :
    HostWord i w ↔ i.format = .hostOp ∧ i.wellFormed = true ∧ encode P i = some w := by
  constructor
  · intro hword
    cases hword with
    | init _ hlimit => exact ⟨rfl, decide_eq_true hlimit, rfl⟩
    | addData hchunk => exact ⟨rfl, decide_eq_true hchunk, rfl⟩
    | getFrames => exact ⟨rfl, rfl, rfl⟩
    | reserved hop hi =>
      subst hi
      exact ⟨decodeReserved_format _, decodeReserved_wellFormed _, encode_decodeReserved P hop⟩
  · rintro ⟨hformat, hwf, hw⟩
    have hreserved {b : Byte} (hrow : ReservedRow i) (hb : encode P i = some [b]) : HostWord i [b] := by
      obtain ⟨hop, hi⟩ := decodeReserved_of_encode hrow hb
      exact .reserved hop hi
    cases i with
    | init memory limit =>
      cases hw
      exact .init memory (of_decide_eq_true hwf)
    | addData chunk =>
      cases hw
      exact .addData (of_decide_eq_true hwf)
    | getFrames =>
      cases hw
      exact .getFrames
    | reservedOp03 | reservedOp04 | reservedOp08 | reservedOp10 | reservedOp20 | reservedOp40 | reservedOp80 =>
      cases hw
      exact hreserved (by simp [ReservedRow]) rfl
    | _ => cases hformat

/-! ### The decoder, one equation for each form of the operation byte -/

theorem decode_init_cons {tail : Bytes} (h : 5 ≤ tail.length) :
    decode (0x00#8 :: tail) = .ok (.init (byteAt tail 0) (le32 tail 1), tail.drop 5) :=
  if_neg (Nat.not_lt.2 h)

theorem decode_addData_cons {tail : Bytes} (h : 4 + le32 tail 0 ≤ tail.length) :
    decode (0x01#8 :: tail) = .ok (.addData (slice tail 4 (4 + le32 tail 0)), tail.drop (4 + le32 tail 0)) :=
  if_neg (Nat.not_lt.2 h)

theorem decode_reserved_cons {op : Byte} (h : 3 ≤ op.toNat) (tail : Bytes) :
    decode (op :: tail) = .ok (decodeReserved op, tail) := by
  rw [decode, if_neg (by bv_omega), if_neg (by bv_omega), if_neg (by bv_omega)]

/-- The decoder reads a word off the bytes it begins. -/
theorem HostWord.decode_append {i : Instr} {w : Bytes} (hword : HostWord i w) (rest : Bytes) :
    decode (w ++ rest) = .ok (i, rest) := by
  cases hword with
  | @init memory limit hlimit =>
    rw [List.cons_append, decode_init_cons (by simp)]
    simp [le32_nat32Bytes hlimit, byteAt]
  | @addData chunk hchunk =>
    have hlimit : le32 (nat32Bytes chunk.length ++ (chunk ++ rest)) 0 = chunk.length := le32_nat32Bytes hchunk _
    rw [List.cons_append, List.append_assoc, decode_addData_cons (by simp [hlimit]), hlimit]
    simp [slice, ← List.drop_drop]
  | getFrames => rfl
  | reserved hop hi =>
    rw [List.cons_append, List.nil_append, decode_reserved_cons hop, hi]

/-- Whatever is decoded, its word stood at the head of the bytes. -/
theorem hostWord_of_decode {bs rest : Bytes} {i : Instr} (h : decode bs = .ok (i, rest)) :
    ∃ w, HostWord i w ∧ bs = w ++ rest := by
  cases bs with
  | nil => cases h
  | cons op tail =>
    simp only [decode] at h
    split_ifs at h with hinit hshort hadd hshort hget <;> cases h
    · obtain ⟨memory, operand, rfl⟩ := List.exists_cons_of_length_pos (show 0 < tail.length by omega)
      have hoperand : nat32Bytes (le32 operand 0) ++ operand.drop 4 = operand :=
        nat32Bytes_le32_append_drop (by simp at hshort; omega)
      refine ⟨_, .init memory (le32_le operand 0), ?_⟩
      rw [hinit, le32_cons_succ, List.cons_append, List.cons_append, List.drop_succ_cons, hoperand]
    · have hchunk : (slice tail 4 (4 + le32 tail 0)).length = le32 tail 0 := by
        rw [slice_length]
        omega
      refine ⟨_, .addData (hchunk.trans_le (le32_le tail 0)), ?_⟩
      rw [hadd, hchunk, List.cons_append, List.append_assoc, slice_append_drop tail (by omega),
        nat32Bytes_le32_append_drop (by omega)]
    · exact ⟨_, .getFrames, by rw [hget]; rfl⟩
    · exact ⟨[op], .reserved (by bv_omega) rfl, rfl⟩

end Sys2Proof.Machine
end

section
/-!
The statements about the words of the host operations (30_encoding R84, R85).
-/

namespace Sys2Proof.Proofs

open Sys2Proof Sys2Proof.Machine

/-- Settles O49: the encoder gives a host word, and the decoder reads a host word off the bytes it begins. -/
theorem hostOperationDecodesFromItsWord : Obligations.HostOperationDecodesFromItsWord :=
  fun P i w rest hformat hwf hw => ((hostWord_iff P i w).2 ⟨hformat, hwf, hw⟩).decode_append rest

/-- Settles O50: what is decoded stood there as a host word, and the host words are the encoder's. -/
theorem decodedHostOperationHasItsWord : Obligations.DecodedHostOperationHasItsWord := by
  intro P bs rest i h
  obtain ⟨w, hword, hbs⟩ := hostWord_of_decode h
  obtain ⟨hformat, hwf, hw⟩ := (hostWord_iff P i w).1 hword
  exact ⟨hformat, hwf, w, hw, hbs⟩

end Sys2Proof.Proofs
end

section
/-!
The formats on the wire (30_encoding R71, R77, R80): the fields that the codecs read from them, their decoders and the message
type a class byte selects; and the pseudo-operations that expand to them (R91).
-/

namespace Sys2Proof.Machine

open Sys2Proof

theorem payloadFits_iff (payload : Bytes) : payloadFits payload = true ↔ payload.length ≤ 65535 := decide_eq_true_iff

theorem payloadFits_eq_false_iff (payload : Bytes) : payloadFits payload = false ↔ 65535 < payload.length := by
  rw [← Bool.not_eq_true, payloadFits_iff, Nat.not_le]

/-! ### Frames -/

/-- A frame is decoded from its bytes, whatever stands after them (R71, R72). -/
theorem decodeFrame_frameWire_append (P : Params) (i c : Byte) (p : Bytes) (k : U16) (e : Byte) (rest : Bytes)
    (h : p.length ≤ 65535) : decodeFrame P (frameWire P i c p k e ++ rest) = .ok (.frame i c p k e, rest) := by
  have hlength : (frameWire P i c p k e ++ rest).length = 9 + p.length + rest.length := by simp
  have hdeclared : (le16 (frameWire P i c p k e ++ rest) 4).toNat = p.length :=
    frameWire_declaredLength P i c p k e rest h
  obtain ⟨-, hsync0, hsync1⟩ := frameWire_marker P i c p k e rest
  have hid : byteAt (frameWire P i c p k e ++ rest) 2 = i := rfl
  have hclass : byteAt (frameWire P i c p k e ++ rest) 3 = c := rfl
  have hrest : (frameWire P i c p k e ++ rest).drop (9 + p.length) = rest :=
    List.drop_left' (frameWire_length P i c p k e)
  rw [decodeFrame, if_neg (by omega), if_neg (not_or.2 ⟨not_not.2 hsync0, not_not.2 hsync1⟩), hdeclared,
    if_neg (by simp only [Config.minFrameLen]; omega), if_neg (by simp only [Config.minFrameLen]; omega), hid, hclass,
    frameWire_payload, frameWire_crc, frameWire_terminator, hrest]

/-- The verdict on a frame on the wire: its length is right, so the CRC and the terminator decide (R82, R162). -/
theorem parseCandidate_frameWire (P : Params) (i c : Byte) (p : Bytes) (k : U16) (e : Byte) (h : p.length ≤ 65535) :
    parseCandidate P (frameWire P i c p k e) =
      if computeCrc (frameBody i c p) ≠ k then .checksumError
      else if e ≠ P.etx then .terminatorError
      else .complete (buildFrame P (headerAt (frameWire P i c p k e)) ⟨k, e⟩ p (frameWire P i c p k e)) := by
  have hlength := frameWire_length P i c p k e
  have hdeclared := frameWire_declaredLength P i c p k e [] h
  have hbody := frameWire_body P i c p k e []
  have hpayload := frameWire_payload P i c p k e []
  have hcrc := frameWire_crc P i c p k e []
  have hterminator := frameWire_terminator P i c p k e []
  rw [List.append_nil] at hdeclared hbody hpayload hcrc hterminator
  have hspan : slice (frameWire P i c p k e) 0 (9 + p.length) = frameWire P i c p k e := by
    rw [← hlength, slice_zero_length]
  rw [parseCandidate_eq, footerAt, hdeclared, hbody, hpayload, hcrc, hterminator, hspan, if_neg (by omega),
    if_neg (by omega)]

theorem latchVerdict_latchesOnly (P : Params) (c : Bytes) (d : Datapath) : VerdictLatchesOnly d (latchVerdict P c d) := rfl

/-! ### Large payloads -/

@[simp] theorem largeWire_length (tid : Byte) (page total : U16) (data : Bytes) :
    (largeWire tid page total data).length = 5 + data.length := by
  simp [largeWire]
  omega

/-- The codec reads back the fields that were written (R77, R136). -/
theorem largeMetaAt_largeWire (tid : Byte) (page total : U16) (data : Bytes) :
    largeMetaAt (largeWire tid page total data) = ⟨tid, page, total, data⟩ := by
  have hpage : le16 (largeWire tid page total data) 1 = page := u16Bytes_join page
  have htotal : le16 (largeWire tid page total data) 3 = total := u16Bytes_join total
  rw [largeMetaAt, hpage, htotal]
  rfl

/-- A large payload of every admitted length is decoded from its bytes (R77). -/
theorem decodeLarge_largeWire (tid : Byte) (page total : U16) {data : Bytes}
    (hlarge : Config.largeThreshold < 5 + data.length) (hfits : 5 + data.length ≤ Config.maxPayload) :
    decodeLarge (largeWire tid page total data) = .ok (.large tid page total data) := by
  have hfields := largeMetaAt_largeWire tid page total data
  rw [largeMetaAt, LargeMeta.mk.injEq] at hfields
  obtain ⟨htid, hpage, htotal, hdata⟩ := hfields
  rw [decodeLarge, largeWire_length, if_neg (Nat.not_le.2 hlarge), if_neg (Nat.not_lt.2 hfits), htid, hpage, htotal,
    hdata]

/-! ### Class bytes -/

/-- Every class byte is the encoding of the row it selects: a named value, or a range that fixes the high bits (R80). -/
theorem encode_decodeClass (P : Params) (b : Byte) : encode P (decodeClass b) = some [b] := by
  unfold decodeClass
  repeat' refine iteInduction (motive := fun i => encode P i = some [b]) (fun _ => ?_) (fun _ => ?_)
  any_goals (subst b; rfl)
  all_goals
    refine congrArg (fun x => some [x]) (append_eq_iff.2 ⟨?_, rfl⟩)
    bv_omega

theorem decodeClass_format (b : Byte) : (decodeClass b).format = .cls := by
  unfold decodeClass
  repeat' refine iteInduction (motive := fun i => Instr.format i = .cls) (fun _ => ?_) (fun _ => ?_)
  all_goals rfl

theorem decodeClass_of_encode {P : Params} {i : Instr} (hformat : i.format = .cls) {b : Byte}
    (hb : encode P i = some [b]) : decodeClass b = i := by
  cases i with
  | classLog | classHighFrequency | classNmeaStandard | classNmeaProprietary | classThirdParty | classCommand
  | classUnknown05 | classUnknown11 =>
    cases hb
    rfl
  | classUnknown06 | classUnknown08 | classUnknown12 | classUnknown14 | classUnknown18 | classUnknown20
  | classUnknown40 | classUnknown80 =>
    simp only [encode, Option.some.injEq, List.cons.injEq, and_true] at hb
    obtain ⟨hhigh, rfl⟩ := append_eq_iff.1 hb
    simp only [decodeClass, ← BitVec.toNat_inj, BitVec.toNat_ofNat] at hhigh ⊢
    simp (disch := omega) only [if_pos, if_neg]
  | _ => cases hformat

theorem encode_of_cls (P : Params) {i : Instr} (hformat : i.format = .cls) : ∃ b, encode P i = some [b] := by
  cases i with
  | classLog | classHighFrequency | classNmeaStandard | classNmeaProprietary | classThirdParty | classCommand
  | classUnknown05 | classUnknown11 | classUnknown06 | classUnknown08 | classUnknown12 | classUnknown14
  | classUnknown18 | classUnknown20 | classUnknown40 | classUnknown80 => exact ⟨_, rfl⟩
  | _ => cases hformat

theorem typeOfClass_eq_unknown {b : Byte} (hnamed : 5 ≤ b.toNat) (hcommand : b.toNat ≠ 16) :
    typeOfClass b = .unknown := by
  rw [typeOfClass, if_neg (by bv_omega), if_neg (by bv_omega), if_neg (by bv_omega), if_neg (by bv_omega),
    if_neg (by bv_omega), if_neg (by bv_omega)]

/-- A range of class bytes selects `unknown` when it lies above the low named values and is not the one of `0x10`. -/
theorem selectType_row_unknown {k w : Nat} (high : BitVec k) (low : BitVec w) {b : Byte}
    (hb : b.toNat = (high ++ low).toNat) (hnamed : 5 ≤ high.toNat * 2 ^ w) (hcommand : high.toNat ≠ 16 / 2 ^ w)
    (s : State) : selectType b s = .next { s with result := .messageType .unknown } := by
  have hrow : typeOfClass b = .unknown := by
    apply typeOfClass_eq_unknown
    · rw [hb, toNat_append_eq_add]
      omega
    · intro h16
      obtain ⟨hhigh, -⟩ := append_eq_iff.1 (rfl : high ++ low = _)
      rw [← hb, h16] at hhigh
      exact hcommand hhigh.symm
  rw [selectType, hrow]
  rfl

/-! ### Pseudo-operations -/

/-- A frame byte by byte (R71, R91). -/
theorem frameWire_eq_bytes (P : Params) (i c : Byte) (p : Bytes) (k : U16) (e : Byte) :
    frameWire P i c p k e =
      [P.sync0, P.sync1, i, c, (BitVec.ofNat 16 p.length).extractLsb' 0 8, (BitVec.ofNat 16 p.length).extractLsb' 8 8] ++
        p ++ [k.extractLsb' 0 8, k.extractLsb' 8 8, e] := by
  simp [frameWire, u16Bytes]

theorem expandFrame_of_fits {payload : Bytes} (h : payload.length ≤ 65535) (bytes : Bytes) (s : State) :
    expandFrame payload bytes s = .next { s with result := .bytes bytes } :=
  if_pos ((payloadFits_iff payload).2 h)

theorem expandFrame_of_too_long {payload : Bytes} (h : 65535 < payload.length) (bytes : Bytes) (s : State) :
    expandFrame payload bytes s = .refused .payloadTooLong := by
  rw [expandFrame, (payloadFits_eq_false_iff payload).2 h]
  rfl

theorem execAddFrame_of_too_long {payload : Bytes} (h : 65535 < payload.length) (i c : Byte) (s : State) :
    execAddFrame i c payload s = .refused .payloadTooLong := by
  rw [execAddFrame, (payloadFits_eq_false_iff payload).2 h]
  rfl

theorem execAddData_next (chunk : Bytes) (s : State) : ∃ t, execAddData chunk s = .next t := by
  unfold execAddData
  split <;> exact ⟨_, rfl⟩

end Sys2Proof.Machine
end

section
/-!
The statements about the formats on the wire and the pseudo-operations (30_encoding R71 to R92).
-/

namespace Sys2Proof.Proofs

open Sys2Proof Sys2Proof.Machine

/-- Settles O31: the frame's length is right, so the CRC and then the terminator decide the verdict. -/
theorem wireFrameVerdict : Obligations.WireFrameVerdict := by
  intro s i c e p k body
  constructor
  · intro h
    refine ⟨_, _, if_pos ((payloadFits_iff p).2 h), rfl, ⟨rfl, rfl, rfl, rfl, rfl, rfl, rfl, rfl, rfl⟩,
      latchVerdict_latchesOnly _ _ _, ?_⟩
    rw [parseCandidate_frameWire s.params i c p k e h, show frameBody i c p = body from rfl]
    by_cases hcrc : computeCrc body = k
    · by_cases hetx : e = s.params.etx
      · simp [hcrc, hetx]
      · simp [hcrc, hetx]
    · simp [hcrc]
  · intro h
    exact if_neg (by simp [(payloadFits_eq_false_iff p).2 h])

/-- Settles O51, format by format. -/
theorem wireFormatsDecodeFromTheirBytes : Obligations.WireFormatsDecodeFromTheirBytes := by
  refine ⟨fun P i c e p k w rest h hw => ?_, fun P tid page total data w hwf hw => ?_, fun P i hformat => ?_,
    fun P b => ⟨encode_decodeClass P b, decodeClass_format b⟩⟩
  · cases hw
    exact decodeFrame_frameWire_append P i c p k e rest h
  · cases hw
    obtain ⟨hlarge, hfits⟩ := Bool.and_eq_true_iff.1 hwf
    exact decodeLarge_largeWire tid page total (of_decide_eq_true hlarge) (of_decide_eq_true hfits)
  · obtain ⟨b, hb⟩ := encode_of_cls P hformat
    exact ⟨b, hb, decodeClass_of_encode hformat hb⟩

/-- Settles O26: the named rows by the table itself, the others as ranges that miss every named value. -/
theorem classBytesSelectMessageType : Obligations.ClassBytesSelectMessageType := fun s =>
  ⟨rfl, rfl, rfl, rfl, rfl, rfl, rfl,
    fun x => selectType_row_unknown 3#7 x rfl (by decide) (by decide) s,
    fun x => selectType_row_unknown 1#5 x rfl (by decide) (by decide) s, rfl,
    fun x => selectType_row_unknown 9#7 x rfl (by decide) (by decide) s,
    fun x => selectType_row_unknown 5#6 x rfl (by decide) (by decide) s,
    fun x => selectType_row_unknown 3#5 x rfl (by decide) (by decide) s,
    fun x => selectType_row_unknown 1#3 x rfl (by decide) (by decide) s,
    fun x => selectType_row_unknown 1#2 x rfl (by decide) (by decide) s,
    fun x => selectType_row_unknown 1#1 x rfl (by decide) (by decide) s⟩

/-- Settles O32: the codec reads back the fields the payload was written from. -/
theorem largePayloadLatchesItsFields : Obligations.LargePayloadLatchesItsFields := by
  intro s tid page total data
  rw [exec, execLarge, largeMetaAt_largeWire]
  rfl

/-- Settles O47: the expansions are the frame's bytes, refused where no length field declares the payload. -/
theorem framePseudoOperationsExpand : Obligations.FramePseudoOperationsExpand := by
  intro s i c p len head k wire
  have hwire (k : U16) (e : Byte) : frameWire s.params i c p k e = wire k e := frameWire_eq_bytes s.params i c p k e
  constructor
  · intro h
    obtain ⟨t, ht⟩ := execAddData_next (frameBytes s.params i c p) s
    simp only [← hwire]
    exact ⟨expandFrame_of_fits h _ s, expandFrame_of_fits h _ s, expandFrame_of_fits h _ s,
      t, (if_pos ((payloadFits_iff p).2 h)).trans ht, ht⟩
  · intro h
    exact ⟨expandFrame_of_too_long h _ s, expandFrame_of_too_long h _ s, expandFrame_of_too_long h _ s,
      execAddFrame_of_too_long h i c s⟩

/-- Settles O48: the bytes of `largeWire` and of a repetition are the expansions as they stand. -/
theorem largePayloadAndRepExpand : Obligations.LargePayloadAndRepExpand := fun _ _ _ _ _ _ _ => ⟨rfl, rfl⟩

/-- Settles O52, by running the decoders on the seven words. -/
theorem writtenOutWordsDecode : Obligations.WrittenOutWordsDecode :=
  ⟨by decide, by decide, by decide, by decide, by decide, by decide, by decide⟩

end Sys2Proof.Proofs
end

section
/-!
The CRC step and the fold of it over a byte sequence: linear over exclusive-or, injective, the table form, and the residue
(40_crc_engine R102, R103, R105, R106).
-/

namespace Sys2Proof.Machine

open Sys2Proof

/-! ### One step -/

/-- One iteration more, at the end. -/
theorem crcShifts_succ (k : Nat) (c : U16) : crcShifts (k + 1) c = crcShift (crcShifts k c) := by
  rw [crcShifts_eq_iterate, crcShifts_eq_iterate, Function.iterate_succ_apply']

theorem crcUpdate_xor (x y : U16) (a b : Byte) : crcUpdate (x ^^^ y) (a ^^^ b) = crcUpdate x a ^^^ crcUpdate y b := by
  rw [crcUpdate, BitVec.setWidth_xor, crcUpdate, crcUpdate, ← crcShifts_xor]
  congr 1
  ac_rfl

theorem crcUpdate_injective (b : Byte) : Function.Injective fun acc => crcUpdate acc b :=
  fun _ _ h => (BitVec.xor_left_inj _).1 (crcShifts_injective 8 h)

theorem crcUpdate_bijective (b : Byte) : Function.Bijective fun acc => crcUpdate acc b :=
  Finite.injective_iff_bijective.1 (crcUpdate_injective b)

/-- Zero extension loses nothing of the byte. -/
theorem crcUpdate_injective_byte (acc : U16) : Function.Injective (crcUpdate acc) := by
  intro x y h
  have hwide : x.setWidth 16 = y.setWidth 16 := (BitVec.xor_right_inj _).1 (crcShifts_injective 8 h)
  simpa using congrArg (BitVec.setWidth 8) hwide

/-- Eight iterations shift the high byte out unchanged; only the low byte meets the polynomial. -/
theorem crcShifts_eight (v : U16) : crcShifts 8 v = (v >>> 8) ^^^ crcShifts 8 ((v.setWidth 8).setWidth 16) := by
  have hlow : ∀ i < 8, (v ^^^ (v.setWidth 8).setWidth 16).getLsbD i = false := by
    intro i hi
    simp [hi, show i < 16 by omega]
  have hhigh : (v ^^^ (v.setWidth 8).setWidth 16) >>> 8 = v >>> 8 := by
    ext i hi
    simp
  calc crcShifts 8 v
      = crcShifts 8 ((v ^^^ (v.setWidth 8).setWidth 16) ^^^ (v.setWidth 8).setWidth 16) := by
        rw [BitVec.xor_assoc, BitVec.xor_self, BitVec.xor_zero]
    _ = (v >>> 8) ^^^ crcShifts 8 ((v.setWidth 8).setWidth 16) := by
        rw [crcShifts_xor, crcShifts_of_low_zero le_rfl hlow, hhigh]

/-- The table form (R105); the byte does not reach the high half. -/
theorem crcUpdate_eq_table (acc : U16) (b : Byte) :
    crcUpdate acc b = (acc >>> 8) ^^^ crcUpdate 0x0000#16 ((acc ^^^ b.setWidth 16).setWidth 8) := by
  have hhigh : (acc ^^^ b.setWidth 16) >>> 8 = acc >>> 8 := by
    ext i hi
    simp
  rw [crcUpdate, crcShifts_eight, hhigh, crcUpdate, BitVec.zero_xor]

theorem crcUpdate_zero_zero : crcUpdate 0x0000#16 0x00#8 = 0x0000#16 := by decide

/-- The accumulator's own low byte cancels: the step shifts it out. -/
theorem crcUpdate_low_byte (acc : U16) : crcUpdate acc (acc.setWidth 8) = acc >>> 8 := by
  have hcancel : (acc ^^^ (acc.setWidth 8).setWidth 16).setWidth 8 = 0x00#8 := by
    rw [BitVec.setWidth_xor, BitVec.setWidth_setWidth_of_le _ (by decide), BitVec.setWidth_eq, BitVec.xor_self]
  rw [crcUpdate_eq_table, hcancel, crcUpdate_zero_zero, BitVec.xor_zero]

/-! ### The fold over a byte sequence -/

theorem computeCrc_nil : computeCrc [] = 0x0000#16 := rfl

theorem computeCrc_append (a b : Bytes) : computeCrc (a ++ b) = b.foldl crcUpdate (computeCrc a) := List.foldl_append

theorem foldl_crcUpdate_xor (x y : U16) (a b : Bytes) (h : a.length = b.length) :
    (List.zipWith (fun x y => x ^^^ y) a b).foldl crcUpdate (x ^^^ y) = a.foldl crcUpdate x ^^^ b.foldl crcUpdate y := by
  induction a generalizing b x y with
  | nil => cases b with
    | nil => rfl
    | cons => cases h
  | cons p a ih => cases b with
    | nil => cases h
    | cons q b =>
      rw [List.zipWith_cons_cons, List.foldl_cons, crcUpdate_xor]
      exact ih _ _ b (Nat.succ.inj h)

theorem foldl_crcUpdate_injective (c : Bytes) : Function.Injective fun acc => c.foldl crcUpdate acc := by
  induction c with
  | nil => exact Function.injective_id
  | cons b c ih => exact ih.comp (crcUpdate_injective b)

/-- Zero bytes leave the initial accumulator as it is. -/
theorem computeCrc_replicate_zero (n : Nat) : computeCrc (List.replicate n 0x00#8) = 0x0000#16 := by
  induction n with
  | zero => rfl
  | succ n ih => rw [List.replicate_succ', computeCrc_append, ih]; exact crcUpdate_zero_zero

theorem computeCrc_zeros_append (n : Nat) (a : Bytes) : computeCrc (List.replicate n 0x00#8 ++ a) = computeCrc a := by
  rw [computeCrc_append, computeCrc_replicate_zero]
  rfl

/-- The residue (R106): each of the two CRC bytes is the low byte of the accumulator it meets. -/
theorem computeCrc_append_crc (m : Bytes) :
    computeCrc (m ++ [(computeCrc m).extractLsb' 0 8, (computeCrc m).extractLsb' 8 8]) = 0x0000#16 := by
  rw [computeCrc_append]
  generalize computeCrc m = crc
  have hlow : crc.extractLsb' 0 8 = crc.setWidth 8 := by ext i hi; simp
  have hhigh : crc.extractLsb' 8 8 = (crc >>> 8).setWidth 8 := by ext i hi; simp
  calc [crc.extractLsb' 0 8, crc.extractLsb' 8 8].foldl crcUpdate crc
      = crcUpdate (crcUpdate crc (crc.setWidth 8)) ((crc >>> 8).setWidth 8) := by rw [hlow, hhigh]; rfl
    _ = crc >>> 8 >>> 8 := by rw [crcUpdate_low_byte, crcUpdate_low_byte]
    _ = 0x0000#16 := by rw [← BitVec.shiftRight_add]; exact BitVec.ushiftRight_eq_zero le_rfl

end Sys2Proof.Machine
end

section
/-!
The statements about the CRC Engine (40_crc_engine R101 to R106).
-/

namespace Sys2Proof.Proofs

open Sys2Proof Sys2Proof.Machine

/-- Settles O13: `CRC_RESET` writes `CRC_INIT`, which is zero. -/
theorem crcResetClearsAccumulator : Obligations.CrcResetClearsAccumulator := fun _ => rfl

/-- Settles O14: the nine values are the accumulator after each number of iterations. -/
theorem crcUpdateIsBitSerialStep : Obligations.CrcUpdateIsBitSerialStep := fun s b =>
  ⟨fun k => crcShifts k (s.dp.crcAcc ^^^ b.setWidth 16), rfl, fun k _ => crcShifts_succ k _, rfl⟩

/-- Settles O15: linearity and the table form are the step's, and an injection of a finite type is a bijection. -/
theorem crcUpdateIsBijectiveLinearAndTabular : Obligations.CrcUpdateIsBijectiveLinearAndTabular :=
  ⟨crcUpdate_bijective, crcUpdate_xor, crcUpdate_eq_table⟩

/-- Settles O16: the returned value is the fold, which a byte at the end extends by one step. -/
theorem computeCrcFoldsUpdates : Obligations.ComputeCrcFoldsUpdates := fun _ bytes =>
  ⟨⟨computeCrc bytes, rfl, rfl⟩, computeCrc_nil, fun b => computeCrc_append bytes [b]⟩

/-- Settles O17: all four are facts about the fold; linearity starts from zero accumulators, whose xor is zero. -/
theorem computeCrcStreamsLinearAndResidue : Obligations.ComputeCrcStreamsLinearAndResidue :=
  ⟨computeCrc_append, foldl_crcUpdate_xor 0x0000#16 0x0000#16, computeCrc_zeros_append, computeCrc_append_crc⟩

/-- Settles O18: the bytes after the change lose no difference of the accumulator, and the step loses none of the byte. -/
theorem computeCrcDetectsOneByteChange : Obligations.ComputeCrcDetectsOneByteChange := by
  intro a c x y hne h
  simp only [computeCrc_append] at h
  exact hne (crcUpdate_injective_byte _ (foldl_crcUpdate_injective c h))

end Sys2Proof.Proofs
end

section
/-!
The header, footer and large-frame codecs as instructions: one rule for each outcome of a read (41_header_footer_codec R120,
R123, R124; 42_large_frame_codec R139).
-/

namespace Sys2Proof.Machine

open Sys2Proof

/-! ### The codecs outside their preconditions -/

theorem readHeader_eq_none {b : Bytes} (h : b.length < 6) : readHeader b = none := if_pos h

theorem readFooter_eq_none {b : Bytes} (h : b.length < 9 + declaredLength b) : readFooter b = none := by
  simp [readFooter, footerReadable, h]

theorem decodeLargeMeta_eq_none {b : Bytes} (h : b.length < 5) : decodeLargeMeta b = none := if_pos h

/-! ### The instructions -/

theorem exec_readHeader_of_some {b : Bytes} {hd : Header} (h : readHeader b = some hd) (s : State) :
    exec (.readHeader b) s = .next { s with dp := { s.dp with header := hd }, result := .header hd } := by
  rw [exec, execReadHeader, h]
  rfl

theorem exec_readHeader_of_none {b : Bytes} (h : readHeader b = none) (s : State) :
    exec (.readHeader b) s = .next { s with result := .insufficientLength } := by
  rw [exec, execReadHeader, h]
  rfl

theorem exec_readFooter_of_some {b : Bytes} {f : Footer} (h : readFooter b = some f) (s : State) :
    exec (.readFooter b) s = .next { s with dp := { s.dp with footer := f }, result := .footer f } := by
  rw [exec, execReadFooter, h]
  rfl

/-- The footer latch becomes a free value (log 7). -/
theorem exec_readFooter_of_none {b : Bytes} (h : readFooter b = none) (s : State) :
    exec (.readFooter b) s = .next
      { s with
        dp := { s.dp with footer := Config.freeFooter s.freeCount }
        freeCount := s.freeCount + 1
        result := .noResult } := by
  rw [exec, execReadFooter, h]
  rfl

/-- The metadata latch becomes a free value (log 7). -/
theorem exec_decodeLarge_of_none {b : Bytes} (h : decodeLargeMeta b = none) (s : State) :
    exec (.decodeLarge b) s = .next
      { s with
        dp := { s.dp with large := Config.freeLarge s.freeCount }
        freeCount := s.freeCount + 1
        result := .noResult } := by
  rw [exec, execDecodeLarge, h]
  rfl

end Sys2Proof.Machine
end

section
/-!
The statements about the Header/Footer Codec and the codecs' preconditions (41_header_footer_codec R120, R123, R124;
42_large_frame_codec R139).
-/

namespace Sys2Proof.Proofs

open Sys2Proof Sys2Proof.Machine

/-- Settles O20: from 6 bytes on the latched header is `headerAt`, whose taps are the stated offsets. -/
theorem readHeaderExtractsFixedOffsets : Obligations.ReadHeaderExtractsFixedOffsets := fun s bytes =>
  ⟨fun h => exec_readHeader_of_some (readHeader_eq_some bytes h) s,
    fun h => exec_readHeader_of_none (readHeader_eq_none h) s⟩

/-- Settles O21: under the precondition the latched footer is `footerAt`, whose taps follow the declared payload. -/
theorem readFooterFollowsDeclaredLength : Obligations.ReadFooterFollowsDeclaredLength := fun s bytes h =>
  exec_readFooter_of_some (readFooter_eq_some bytes h) s

/-- Settles O22: each codec reads nothing, and an instruction that stores nothing leaves the architectural state alone. -/
theorem codecsReturnNoneOutsidePreconditions : Obligations.CodecsReturnNoneOutsidePreconditions := by
  intro s bytes
  constructor
  · intro hshort
    have hnext := exec_readFooter_of_none (readFooter_eq_none hshort) s
    obtain ⟨hsame, -⟩ := microOperationsLeaveArchitectureAlone _ _ _ hnext nofun nofun nofun nofun
    exact ⟨_, hnext, rfl, hsame, rfl⟩
  · intro hshort
    have hnext := exec_decodeLarge_of_none (decodeLargeMeta_eq_none hshort) s
    obtain ⟨hsame, -⟩ := microOperationsLeaveArchitectureAlone _ _ _ hnext nofun nofun nofun nofun
    exact ⟨_, hnext, rfl, hsame, rfl⟩

end Sys2Proof.Proofs
end

section
/-!
The Large-Frame Codec as instructions (42_large_frame_codec R135, R136, R138): the flag, and the metadata of a payload that
is long enough for it.
-/

namespace Sys2Proof.Machine

open Sys2Proof

theorem exec_isLarge (n : U16) (s : State) :
    exec (.isLarge n) s = .next
      { s with dp := { s.dp with isLarge := isLargeFlag n }, result := .flag (isLargeFlag n) } := rfl

theorem decodeLargeMeta_eq_some {b : Bytes} (h : 5 ≤ b.length) : decodeLargeMeta b = some (largeMetaAt b) :=
  if_neg (Nat.not_lt.2 h)

theorem exec_decodeLarge_of_some {b : Bytes} {m : LargeMeta} (h : decodeLargeMeta b = some m) (s : State) :
    exec (.decodeLarge b) s = .next { s with dp := { s.dp with large := some m }, result := .largeMeta m } := by
  rw [exec, execDecodeLarge, h]
  rfl

/-- Whatever the payload, the page data is what stands after the 5 metadata bytes (R138). -/
theorem largeMetaAt_pageData_length (b : Bytes) : (largeMetaAt b).pageData.length = b.length - 5 := List.length_drop

end Sys2Proof.Machine
end

section
/-!
The statements about the Large-Frame Codec (42_large_frame_codec R135, R136, R138).
-/

namespace Sys2Proof.Proofs

open Sys2Proof Sys2Proof.Machine

/-- Settles O23: the flag written and returned is `isLargeFlag`, which is true exactly above the threshold. -/
theorem isLargeComparesWithThreshold : Obligations.IsLargeComparesWithThreshold := fun s n =>
  ⟨isLargeFlag n, isLargeFlag_iff n, exec_isLarge n s⟩

/-- Settles O24: from 5 bytes on the latched metadata is `largeMetaAt`, whose taps are the stated offsets. -/
theorem decodeLargeExtractsMetadata : Obligations.DecodeLargeExtractsMetadata := fun s payload h =>
  ⟨exec_decodeLarge_of_some (decodeLargeMeta_eq_some h) s, largeMetaAt_pageData_length payload⟩

end Sys2Proof.Proofs
end

section
/-!
The dispatch boundary (43_dispatch_boundary R145, R148, R149): the class value of each named message type, and the two cases
of the dispatcher.
-/

namespace Sys2Proof.Machine

open Sys2Proof

/-! ### Message types -/

/-- The class value of a message type, by the table of R145; `unknown` has none of its own. -/
def classOfType : MessageType → Option Byte
  | .command => some 0x10#8
  | .log => some 0x00#8
  | .highFrequency => some 0x01#8
  | .nmeaStandard => some 0x02#8
  | .nmeaProprietary => some 0x03#8
  | .thirdParty => some 0x04#8
  | .unknown => none

theorem typeOfClass_of_classOfType {ty : MessageType} {v : Byte} (h : classOfType ty = some v) : typeOfClass v = ty := by
  cases ty <;> cases h <;> rfl

/-- Each row of the map gives `unknown` or the type that has this class value. -/
theorem typeOfClass_eq_unknown_or_classOfType (c : Byte) :
    typeOfClass c = .unknown ∨ classOfType (typeOfClass c) = some c := by
  unfold typeOfClass
  split_ifs
  any_goals (subst c; exact .inr rfl)
  exact .inl rfl

/-- A named type is given for its own class value and for no other (R145). -/
theorem typeOfClass_eq_iff {ty : MessageType} {v : Byte} (hv : classOfType ty = some v) (c : Byte) :
    typeOfClass c = ty ↔ c = v := by
  constructor
  · rintro rfl
    obtain hunknown | hc := typeOfClass_eq_unknown_or_classOfType c
    · rw [hunknown] at hv
      cases hv
    · exact Option.some.inj (hc.symm.trans hv)
  · rintro rfl
    exact typeOfClass_of_classOfType hv

theorem exec_classToType (c : Byte) (s : State) :
    exec (.classToType c) s = .next { s with result := .messageType (typeOfClass c) } := rfl

/-! ### The dispatcher -/

theorem dispatchPayload_of_mem {P : Params} {c i : Byte} (h : (c, i) ∈ P.registry) (p : Bytes) :
    dispatchPayload P c i p = Config.decoder c i p := if_pos h

theorem dispatchPayload_of_notMem {P : Params} {c i : Byte} (h : (c, i) ∉ P.registry) (p : Bytes) :
    dispatchPayload P c i p = ("unknown", none) := if_neg h

theorem exec_dispatch_of_eq {s : State} {c i : Byte} {p : Bytes} {answer : String × Option Data}
    (h : dispatchPayload s.params c i p = answer) :
    exec (.dispatch c i p) s = .next { s with result := .dispatched answer.1 answer.2 } := by
  subst h
  rfl

end Sys2Proof.Machine
end

section
/-!
The statements about the dispatch boundary (43_dispatch_boundary R145, R148, R149).
-/

namespace Sys2Proof.Proofs

open Sys2Proof Sys2Proof.Machine

/-- Settles O25: the type returned is `typeOfClass`, which inverts the table of class values. -/
theorem classToTypeFollowsTable : Obligations.ClassToTypeFollowsTable := fun s c =>
  ⟨typeOfClass c, exec_classToType c s, typeOfClass_eq_iff rfl c, typeOfClass_eq_iff rfl c, typeOfClass_eq_iff rfl c,
    typeOfClass_eq_iff rfl c, typeOfClass_eq_iff rfl c, typeOfClass_eq_iff rfl c⟩

/-- Settles O27, from the dispatcher's answer in each of its two cases. -/
theorem dispatchAnswersRegistryOrSentinel : Obligations.DispatchAnswersRegistryOrSentinel := fun _ _ _ p =>
  ⟨fun hout => exec_dispatch_of_eq (dispatchPayload_of_notMem hout p),
    fun hin => exec_dispatch_of_eq (dispatchPayload_of_mem hin p)⟩

end Sys2Proof.Proofs
end

section
/-!
The pure pass visit by visit (44_frame_assembler R158, R174): where the search stops, what the loop does with each verdict
there, and the verdict on a valid frame with any bytes after it (R180, R182, R183).
-/

namespace Sys2Proof.Machine

open Sys2Proof

/-! ### The search over joined sequences -/

theorem markerIndex_append_right (P : Params) (a b : Bytes) (i : Nat) :
    MarkerIndex P (a ++ b) (a.length + i) ↔ MarkerIndex P b i := by
  rw [← markerIndex_drop, List.drop_left]

/-- Past marker-free bytes the search stops at the marker that begins the rest. -/
theorem findNextSync_append {P : Params} {front rest : Bytes} {cursor : Nat} (hcursor : cursor ≤ front.length)
    (hmarker : MarkerIndex P rest 0)
    (hclear : ∀ j, MarkerIndex P (front ++ rest) j → ¬ (cursor ≤ j ∧ j < front.length)) :
    findNextSync P (front ++ rest) cursor = some front.length := by
  have hfound := (markerIndex_append_right P front rest 0).2 hmarker
  refine (findNextSync_eq_some P _ cursor _).2 ⟨hcursor, hfound, fun j hj hm => ?_⟩
  have := hclear j hm
  omega

/-- At the start of a sequence that begins with the marker the search stops at once. -/
theorem findNextSync_zero {P : Params} {buf : Bytes} (hmarker : MarkerIndex P buf 0) : findNextSync P buf 0 = some 0 :=
  (findNextSync_eq_some P buf 0 0).2 ⟨le_rfl, hmarker, fun j _ _ => Nat.zero_le j⟩

/-- From the end of the sequence on there is nothing to find. -/
theorem findNextSync_length (P : Params) (buf : Bytes) : findNextSync P buf buf.length = none :=
  (findNextSync_eq_none P buf buf.length).2 fun j hj hm => by
    obtain ⟨hinside, -⟩ := hm
    omega

theorem parsePass_of_no_marker {P : Params} {buf : Bytes} (h : ∀ j, ¬ MarkerIndex P buf j) :
    parsePass P buf = ⟨[], [], []⟩ :=
  passLoop_none ((findNextSync_eq_none P buf 0).2 fun j _ => h j)

/-! ### One visit of the loop, verdict by verdict -/

section

variable {P : Params} {buf : Bytes} {last : Option Nat} {fuel cursor m : Nat} {batch : List Frame} {diag : List DiagRecord}
  (hm : findNextSync P buf cursor = some m)
include hm

/-- The incomplete candidate at the last marker ends the pass and is retained (R161). -/
theorem passLoop_missing_last (hv : parseCandidate P (buf.drop m) = .missingBytes) (hlast : last = some m) :
    passLoop P buf last (fuel + 1) cursor batch diag = ⟨batch, buf.drop m, diag⟩ := by
  simp only [passLoop, hm, hv, if_pos hlast]

theorem passLoop_checksumError (hv : parseCandidate P (buf.drop m) = .checksumError) :
    passLoop P buf last (fuel + 1) cursor batch diag =
      passLoop P buf last fuel (m + 1) batch (diag ++ [⟨.checksumError, m⟩]) := by
  simp only [passLoop, hm, hv]

theorem passLoop_complete {f : Frame} (hv : parseCandidate P (buf.drop m) = .complete f) :
    passLoop P buf last (fuel + 1) cursor batch diag =
      passLoop P buf last fuel (m + f.rawBytes.length) (batch ++ [f]) diag := by
  simp only [passLoop, hm, hv]

end

/-! ### Frames on the wire with bytes after them -/

/-- The verdict on a frame on the wire does not depend on the bytes after it (R162). -/
theorem parseCandidate_frameWire_append (P : Params) (i c : Byte) (p : Bytes) (k : U16) (e : Byte) (rest : Bytes)
    (h : p.length ≤ 65535) :
    parseCandidate P (frameWire P i c p k e ++ rest) =
      if computeCrc (frameBody i c p) ≠ k then .checksumError
      else if e ≠ P.etx then .terminatorError
      else .complete (buildFrame P ⟨(P.sync0, P.sync1), i, c, BitVec.ofNat 16 p.length⟩ ⟨k, e⟩ p
        (frameWire P i c p k e)) := by
  have hlength : (frameWire P i c p k e ++ rest).length = 9 + p.length + rest.length := by simp
  have hdeclared := frameWire_declaredLength P i c p k e rest h
  have hheader : headerAt (frameWire P i c p k e ++ rest) =
      ⟨(P.sync0, P.sync1), i, c, BitVec.ofNat 16 p.length⟩ :=
    congrArg (Header.mk (P.sync0, P.sync1) i c) (u16Bytes_join _)
  have hspan : slice (frameWire P i c p k e ++ rest) 0 (9 + p.length) = frameWire P i c p k e := by
    rw [← frameWire_length P i c p k e, slice_append_left _ _ le_rfl, slice_zero_length]
  rw [parseCandidate_eq, footerAt, hdeclared, frameWire_body, frameWire_payload, frameWire_crc, frameWire_terminator, hspan,
    hheader, if_neg (by omega), if_neg (by omega)]

/-- The record that the block makes of a valid frame (R33, R91). -/
def encodedFrame (P : Params) (i c : Byte) (p : Bytes) : Frame :=
  buildFrame P ⟨(P.sync0, P.sync1), i, c, BitVec.ofNat 16 p.length⟩ ⟨computeCrc (frameBody i c p), P.etx⟩ p
    (frameBytes P i c p)

@[simp] theorem encodedFrame_rawBytes (P : Params) (i c : Byte) (p : Bytes) :
    (encodedFrame P i c p).rawBytes = frameBytes P i c p := rfl

theorem frameBytes_length (P : Params) (i c : Byte) (p : Bytes) : (frameBytes P i c p).length = 9 + p.length :=
  frameWire_length P i c p _ _

theorem frameBytes_marker (P : Params) (i c : Byte) (p rest : Bytes) : MarkerIndex P (frameBytes P i c p ++ rest) 0 :=
  frameWire_marker P i c p _ _ rest

theorem parseCandidate_frameBytes_append (P : Params) (i c : Byte) {p : Bytes} (rest : Bytes) (h : p.length ≤ 65535) :
    parseCandidate P (frameBytes P i c p ++ rest) = .complete (encodedFrame P i c p) := by
  rw [frameBytes, parseCandidate_frameWire_append P i c p _ _ rest h, if_neg (not_not_intro rfl),
    if_neg (not_not_intro rfl)]
  rfl

/-- A valid frame at the end of the buffer, with no marker between the cursor and it, is the last frame of the pass, and
nothing is retained (R180, R182). -/
theorem passLoop_frame_at_end {P : Params} {last : Option Nat} {fuel cursor : Nat} {batch : List Frame}
    {diag : List DiagRecord} {front p : Bytes} {i c : Byte} (h : p.length ≤ 65535) (hcursor : cursor ≤ front.length)
    (hclear : ∀ j, MarkerIndex P (front ++ frameBytes P i c p) j → ¬ (cursor ≤ j ∧ j < front.length)) :
    passLoop P (front ++ frameBytes P i c p) last (fuel + 2) cursor batch diag =
      ⟨batch ++ [encodedFrame P i c p], [], diag⟩ := by
  have hmarker := frameBytes_marker P i c p []
  have hverdict := parseCandidate_frameBytes_append P i c [] h
  rw [List.append_nil] at hmarker hverdict
  have hfound := findNextSync_append hcursor hmarker hclear
  have hend := findNextSync_length P (front ++ frameBytes P i c p)
  rw [List.length_append] at hend
  rw [passLoop_complete hfound (by rw [List.drop_left]; exact hverdict), encodedFrame_rawBytes, passLoop_none hend]

/-- The pass over one whole frame (R180). -/
theorem parsePass_frameBytes (P : Params) (i c : Byte) {p : Bytes} (h : p.length ≤ 65535) :
    parsePass P (frameBytes P i c p) = ⟨[encodedFrame P i c p], [], []⟩ := by
  rw [parsePass, frameBytes_length, show 9 + p.length + 1 = 8 + p.length + 2 by omega]
  exact passLoop_frame_at_end (front := []) h le_rfl fun j _ hj => absurd hj.2 (Nat.not_lt_zero j)

end Sys2Proof.Machine
end

section
/-!
The statement on one frame fed alone (44_frame_assembler R180).
-/

namespace Sys2Proof.Proofs

open Sys2Proof Sys2Proof.Machine

/-- Settles O40: the only visit of the pass is at the frame's own marker, where the candidate is the frame. -/
theorem frameRoundTripsThroughPass : Obligations.FrameRoundTripsThroughPass := by
  intro P i c p h
  refine ⟨encodedFrame P i c p, parsePass_frameBytes P i c h, rfl, rfl, rfl, ?_⟩
  exact Nat.mod_eq_of_lt (by omega)

end Sys2Proof.Proofs
end
section
/-!
The assembler's micro-operations as instructions (44_frame_assembler R157, R158, R162, R173, R179): the rules of the two
searches, the verdict and the trim.
-/

namespace Sys2Proof.Machine

open Sys2Proof

theorem exec_findNextSync (buf : Bytes) (cursor : Nat) (s : State) :
    exec (.findNextSync buf cursor) s = .next { s with result := .index (findNextSync s.params buf cursor) } := rfl

theorem exec_findLastSync (buf : Bytes) (s : State) :
    exec (.findLastSync buf) s = .next
      { s with
        dp := { s.dp with lastSyncIndex := findLastSync s.params buf }
        result := .index (findLastSync s.params buf) } := rfl

theorem exec_parsePass (buf : Bytes) (s : State) :
    exec (.parsePass buf) s = .next
      { s with dp := runPass s.params buf s.dp, result := .pass (parsePass s.params buf) } := rfl

theorem exec_trim (retained : Bytes) (limit : Nat) (s : State) :
    exec (.trim retained limit) s = .next { s with buf := trimTail retained limit } := rfl

/-! ### The verdict, test by test -/

/-- A minimum length up to 9 rejects nothing that the test of the declared length would not (R179). -/
theorem parseCandidateMin_eq (P : Params) (c : Bytes) {minLen : Nat} (h : minLen ≤ 9) :
    parseCandidateMin minLen P c = parseCandidate P c := by
  by_cases hmissing : c.length < 9 + declaredLength c
  · rw [(parseCandidate_eq_missing P c).2 hmissing, parseCandidateMin, if_pos hmissing, ite_self]
  · have hmin : ¬ c.length < minLen := by omega
    have hnine : ¬ c.length < 9 := by omega
    rw [parseCandidate_eq, parseCandidateMin, if_neg hmin, if_neg hnine]

section

variable {P : Params} {c : Bytes} (hwhole : 9 + declaredLength c ≤ c.length)
include hwhole

theorem parseCandidate_of_crc_ne (hcrc : computeCrc (slice c 2 (6 + declaredLength c)) ≠ (footerAt c).crc) :
    parseCandidate P c = .checksumError := by
  rw [parseCandidate_eq, if_neg (by omega), if_neg (by omega), if_pos hcrc]

theorem parseCandidate_of_terminator_ne (hcrc : computeCrc (slice c 2 (6 + declaredLength c)) = (footerAt c).crc)
    (hetx : (footerAt c).terminator ≠ P.etx) : parseCandidate P c = .terminatorError := by
  rw [parseCandidate_eq, if_neg (by omega), if_neg (by omega), if_neg (not_not_intro hcrc), if_pos hetx]

theorem parseCandidate_of_valid (hcrc : computeCrc (slice c 2 (6 + declaredLength c)) = (footerAt c).crc)
    (hetx : (footerAt c).terminator = P.etx) :
    parseCandidate P c = .complete (buildFrame P (headerAt c) (footerAt c) (slice c 6 (6 + declaredLength c))
      (slice c 0 (9 + declaredLength c))) := by
  rw [parseCandidate_eq, if_neg (by omega), if_neg (by omega), if_neg (not_not_intro hcrc), if_neg (not_not_intro hetx)]

end

theorem buildFrame_format (P : Params) (h : Header) (f : Footer) (p r : Bytes) :
    (buildFrame P h f p r).format = if 4096 < h.payloadLength.toNat then .large else .standard := by
  simp [buildFrame, isLargeFlag_iff]

/-! ### The trim -/

theorem trimTail_of_lt {retained : Bytes} {limit : Nat} (h : limit < retained.length) :
    trimTail retained limit = retained.drop (retained.length - limit) := if_pos h

theorem trimTail_of_le {retained : Bytes} {limit : Nat} (h : retained.length ≤ limit) : trimTail retained limit = retained :=
  if_neg (Nat.not_lt.2 h)

/-- A pending candidate has its only marker at index 0, so without its first byte it has none (R244). -/
theorem PendingCandidate.no_marker_drop {P : Params} {retained : Bytes} (h : PendingCandidate P retained) {k : Nat}
    (hk : 0 < k) (j : Nat) : ¬ MarkerIndex P (retained.drop k) j := by
  rw [markerIndex_drop]
  obtain rfl | ⟨-, honly, -⟩ := h
  · exact not_markerIndex_short P [] Nat.two_pos _
  · intro hm
    have := honly _ hm
    omega

end Sys2Proof.Machine
end

section
/-!
The statements about the searches, the verdict and the trim (44_frame_assembler R157, R158, R162, R173, R179).
-/

namespace Sys2Proof.Proofs

open Sys2Proof Sys2Proof.Machine

/-- Settles O28, from what the search answers in each of its two cases. -/
theorem findNextSyncIsLeastFromCursor : Obligations.FindNextSyncIsLeastFromCursor := fun s buf cursor =>
  ⟨_, exec_findNextSync buf cursor s, fun i => (findNextSync_eq_some s.params buf cursor i).1,
    (findNextSync_eq_none s.params buf cursor).1⟩

/-- Settles O29: the result is latched as it is, and the backward scan answers the greatest marker. -/
theorem findLastSyncIsGreatest : Obligations.FindLastSyncIsGreatest := fun s buf =>
  ⟨_, exec_findLastSync buf s, fun _ => findLastSync_eq_some, (lastMarker_eq_none s.params buf 0).1⟩

/-- Settles O30: the verdict is the one of the first test that fails, and the latches are the verdict's. -/
theorem parseCandidateReportsFirstFailure : Obligations.ParseCandidateReportsFirstFailure := by
  intro s c N
  refine ⟨_, parseCandidate s.params c, rfl, rfl, rfl, ⟨rfl, rfl, rfl, rfl, rfl, rfl, rfl, rfl, rfl⟩,
    latchVerdict_latchesOnly s.params c s.dp, fun hshort => ?_, parseCandidate_of_crc_ne, parseCandidate_of_terminator_ne,
    fun hwhole hcrc hetx => ?_⟩
  · exact (parseCandidate_eq_missing s.params c).2 (show c.length < 9 + N by omega)
  · exact ⟨_, parseCandidate_of_valid hwhole hcrc hetx, rfl, rfl, rfl, rfl, buildFrame_format s.params _ _ _ _, rfl,
      buildFrame_large s.params _ _ _ _⟩

/-- Settles O33: below 9 bytes the declared length is missing anyway. -/
theorem minFrameLenSixToNineAgree : Obligations.MinFrameLenSixToNineAgree := fun _ P c _ h => parseCandidateMin_eq P c h

/-- Settles O46: a trim that cuts drops at least the byte at index 0, where a pending candidate has its only marker. -/
theorem trimKeepsTailAndCutsMarker : Obligations.TrimKeepsTailAndCutsMarker := by
  refine ⟨fun s retained limit => ⟨_, exec_trim retained limit s, fun h => ⟨trimTail_of_lt h, ?_⟩, trimTail_of_le⟩,
    fun P retained limit hpending h j => ?_⟩
  · rw [trimTail_of_lt h, List.length_drop]
    omega
  · rw [trimTail_of_lt h]
    exact hpending.no_marker_drop (by omega) j

end Sys2Proof.Proofs
end
section
/-!
The sequencer's cursor (44_frame_assembler R163, R164): the rows that leave a candidate, and the invariant from which the
cursor's bounds follow.
-/

namespace Sys2Proof.Machine

open Sys2Proof

/-! ### The incomplete candidate and the integrity failures -/

theorem incompleteCandidate_last (buf : Bytes) {d : Datapath} (h : d.isLast = true) :
    incompleteCandidate buf d =
      { d with outcome := some .missingBytes, retained := buf.drop d.marker, seqState := .idle } := if_pos h

theorem incompleteCandidate_skip (buf : Bytes) {d : Datapath} (h : d.isLast = false) :
    incompleteCandidate buf d =
      { d with outcome := some .missingBytes, cursor := d.marker + 1, seqState := .scanning } := by
  rw [incompleteCandidate, h, if_neg Bool.false_ne_true]

/-! ### The rows of the transition table -/

/-- `need` of `LengthCheck` (R167). -/
theorem lengthCheck_need (n : Nat) : Config.headerLen + n + Config.footerLen = 9 + n := by
  simp only [Config.headerLen, Config.footerLen]
  omega

section

variable (P : Params) (buf : Bytes) {d : Datapath}

theorem seqStep_headerCheck_short (h : d.seqState = .headerCheck) (hshort : d.avail < 9) :
    seqStep P buf d = incompleteCandidate buf d := by
  rw [seqStep, h]
  exact if_pos hshort

theorem seqStep_headerCheck_latch (h : d.seqState = .headerCheck) (hlong : 9 ≤ d.avail) :
    seqStep P buf d = { d with header := headerAt (buf.drop d.marker), seqState := .lengthCheck } := by
  rw [seqStep, h]
  exact if_neg (Nat.not_lt.2 hlong)

theorem seqStep_lengthCheck_short (h : d.seqState = .lengthCheck) (hshort : d.avail < 9 + d.header.payloadLength.toNat) :
    seqStep P buf d = incompleteCandidate buf d := by
  rw [seqStep, h]
  exact if_pos (by rwa [lengthCheck_need])

theorem seqStep_lengthCheck_latch (h : d.seqState = .lengthCheck) (hwhole : 9 + d.header.payloadLength.toNat ≤ d.avail) :
    seqStep P buf d = { d with footer := footerAt (buf.drop d.marker), seqState := .checksumCheck } := by
  rw [seqStep, h]
  exact if_neg (by rwa [lengthCheck_need, Nat.not_lt])

theorem seqStep_checksumCheck_reject (h : d.seqState = .checksumCheck)
    (hcrc : computeCrc (slice buf (d.marker + 2) (d.marker + 6 + d.header.payloadLength.toNat)) ≠ d.footer.crc) :
    seqStep P buf d = rejectCandidate .checksumError
      { d with crcAcc := computeCrc (slice buf (d.marker + 2) (d.marker + 6 + d.header.payloadLength.toNat)) } := by
  rw [seqStep, h]
  exact if_pos hcrc

theorem seqStep_checksumCheck_pass (h : d.seqState = .checksumCheck)
    (hcrc : computeCrc (slice buf (d.marker + 2) (d.marker + 6 + d.header.payloadLength.toNat)) = d.footer.crc) :
    seqStep P buf d = { d with
      crcAcc := computeCrc (slice buf (d.marker + 2) (d.marker + 6 + d.header.payloadLength.toNat))
      seqState := .terminatorCheck } := by
  rw [seqStep, h]
  exact if_neg (not_not_intro hcrc)

theorem seqStep_terminatorCheck_reject (h : d.seqState = .terminatorCheck) (hetx : d.footer.terminator ≠ P.etx) :
    seqStep P buf d = rejectCandidate .terminatorError d := by
  rw [seqStep, h]
  exact if_pos hetx

theorem seqStep_terminatorCheck_pass (h : d.seqState = .terminatorCheck) (hetx : d.footer.terminator = P.etx) :
    seqStep P buf d = { d with seqState := .decode } := by
  rw [seqStep, h]
  exact if_neg (not_not_intro hetx)

theorem seqStep_decode (h : d.seqState = .decode) : seqStep P buf d = seqDecode P buf d := by
  rw [seqStep, h]

end

/-! ### The cursor -/

/-- What holds of the cursor and the latched marker in each state of a pass over `buf` (R26, R160, R164): the cursor is within
the buffer; a candidate under test begins at or behind it, inside the buffer; and once its length is checked, it ends inside
the buffer too. -/
def CursorBounds (buf : Bytes) (d : Datapath) : Prop :=
  match d.seqState with
  | .idle | .scanning => d.cursor ≤ buf.length
  | .headerCheck | .lengthCheck => d.cursor ≤ d.marker ∧ d.marker < buf.length ∧ d.avail = buf.length - d.marker
  | .checksumCheck | .terminatorCheck | .decode =>
      d.cursor ≤ d.marker ∧ d.marker + 9 + d.header.payloadLength.toNat ≤ buf.length

theorem CursorBounds.cursor_le {buf : Bytes} {d : Datapath} (h : CursorBounds buf d) : d.cursor ≤ buf.length := by
  unfold CursorBounds at h
  split at h <;> omega

/-- Leaving an incomplete candidate moves the cursor at most one byte past its marker. -/
theorem incompleteCandidate_cursor {buf : Bytes} {d : Datapath} (hbehind : d.cursor ≤ d.marker)
    (hinside : d.marker < buf.length) :
    d.cursor ≤ (incompleteCandidate buf d).cursor ∧ CursorBounds buf (incompleteCandidate buf d) := by
  cases hlast : d.isLast with
  | true =>
    rw [incompleteCandidate_last buf hlast]
    exact ⟨le_rfl, show d.cursor ≤ buf.length by omega⟩
  | false =>
    rw [incompleteCandidate_skip buf hlast]
    exact ⟨show d.cursor ≤ d.marker + 1 by omega, hinside⟩

/-- An integrity failure moves the cursor one byte past the marker (R170). -/
theorem rejectCandidate_cursor {buf : Bytes} {d : Datapath} (kind : DiagKind) (hbehind : d.cursor ≤ d.marker)
    (hinside : d.marker < buf.length) :
    d.cursor ≤ (rejectCandidate kind d).cursor ∧ CursorBounds buf (rejectCandidate kind d) :=
  ⟨show d.cursor ≤ d.marker + 1 by omega, hinside⟩

/-- Every transition keeps the bounds and does not lower the cursor (R164). -/
theorem seqStep_cursor (P : Params) {buf : Bytes} {d : Datapath} (h : CursorBounds buf d) :
    d.cursor ≤ (seqStep P buf d).cursor ∧ CursorBounds buf (seqStep P buf d) := by
  have hbounds := h
  unfold CursorBounds at h
  cases hstate : d.seqState with
  | idle =>
    rw [seqStep_idle P buf d hstate]
    exact ⟨le_rfl, hbounds⟩
  | scanning =>
    cases hm : findNextSync P buf d.cursor with
    | none =>
      rw [seqStep_scanning_none P buf d hstate hm]
      exact ⟨le_rfl, hbounds.cursor_le⟩
    | some m =>
      obtain ⟨hbehind, ⟨hinside, -⟩, -⟩ := (findNextSync_eq_some P buf d.cursor m).1 hm
      rw [seqStep_scanning_some P buf d m hstate hm]
      exact ⟨le_rfl, hbehind, Nat.lt_of_succ_lt hinside, rfl⟩
  | headerCheck =>
    rw [hstate] at h
    obtain ⟨hbehind, hinside, havail⟩ := h
    obtain hshort | hlong := Nat.lt_or_ge d.avail 9
    · rw [seqStep_headerCheck_short P buf hstate hshort]
      exact incompleteCandidate_cursor hbehind hinside
    · rw [seqStep_headerCheck_latch P buf hstate hlong]
      exact ⟨le_rfl, hbehind, hinside, havail⟩
  | lengthCheck =>
    rw [hstate] at h
    obtain ⟨hbehind, hinside, havail⟩ := h
    obtain hshort | hwhole := Nat.lt_or_ge d.avail (9 + d.header.payloadLength.toNat)
    · rw [seqStep_lengthCheck_short P buf hstate hshort]
      exact incompleteCandidate_cursor hbehind hinside
    · rw [seqStep_lengthCheck_latch P buf hstate hwhole]
      exact ⟨le_rfl, hbehind, show d.marker + 9 + d.header.payloadLength.toNat ≤ buf.length by omega⟩
  | checksumCheck =>
    rw [hstate] at h
    obtain ⟨hbehind, hwhole⟩ := h
    by_cases hcrc : computeCrc (slice buf (d.marker + 2) (d.marker + 6 + d.header.payloadLength.toNat)) = d.footer.crc
    · rw [seqStep_checksumCheck_pass P buf hstate hcrc]
      exact ⟨le_rfl, hbehind, hwhole⟩
    · rw [seqStep_checksumCheck_reject P buf hstate hcrc]
      exact rejectCandidate_cursor .checksumError hbehind (show d.marker < buf.length by omega)
  | terminatorCheck =>
    rw [hstate] at h
    obtain ⟨hbehind, hwhole⟩ := h
    by_cases hetx : d.footer.terminator = P.etx
    · rw [seqStep_terminatorCheck_pass P buf hstate hetx]
      exact ⟨le_rfl, hbehind, hwhole⟩
    · rw [seqStep_terminatorCheck_reject P buf hstate hetx]
      exact rejectCandidate_cursor .terminatorError hbehind (by omega)
  | decode =>
    rw [hstate] at h
    obtain ⟨hbehind, hwhole⟩ := h
    rw [seqStep_decode P buf hstate]
    exact ⟨show d.cursor ≤ d.marker + 9 + d.header.payloadLength.toNat by omega, hwhole⟩

theorem seqRun_succ (P : Params) (buf : Bytes) (n : Nat) (d : Datapath) :
    seqRun P buf (n + 1) d = seqStep P buf (seqRun P buf n d) := by
  rw [seqRun_eq_iterate, seqRun_eq_iterate, Function.iterate_succ_apply']

/-- The bounds hold after every number of transitions of a pass. -/
theorem seqRun_cursorBounds (P : Params) (buf : Bytes) (d : Datapath) (n : Nat) :
    CursorBounds buf (seqRun P buf n (seqStart P buf d)) := by
  induction n with
  | zero => exact Nat.zero_le buf.length
  | succ n ih =>
    rw [seqRun_succ]
    exact (seqStep_cursor P ih).2

end Sys2Proof.Machine
end

section
/-!
The statements about the sequencer (44_frame_assembler R159 to R171, R174, R175) and the step that runs it (20_memory R63).
-/

namespace Sys2Proof.Proofs

open Sys2Proof Sys2Proof.Machine

/-- Settles O35: `PARSE_PASS` leaves the latches of the run, whose products are the pure pass's. -/
theorem sequencerRunEqualsParsePass : Obligations.SequencerRunEqualsParsePass := by
  intro s buf
  have hproducts := runPass_products s.params buf s.dp
  exact ⟨_, exec_parsePass buf s, congrArg MicroResult.pass hproducts.symm, hproducts, runPass_seqState _ _ _,
    rfl, rfl, rfl, rfl, rfl, rfl, rfl, rfl, rfl⟩

/-- Settles O36: the run stays in `Idle` once there, and a run that is long enough for `n` visits ties the loop of `n` visits
to the pass. -/
theorem passTerminates : Obligations.PassTerminates := by
  intro P buf d n
  refine ⟨runPass_seqState P buf d, fun hn => ?_, fun hn => ?_⟩
  · obtain ⟨k, rfl⟩ := Nat.exists_eq_add_of_le hn
    rw [seqRun_add]
    exact seqRun_of_idle (runPass_seqState P buf d) k
  · obtain ⟨-, hloop⟩ := seqRun_eq_passLoop P buf n (6 * n) (seqStart P buf d) rfl (by omega) (by omega) le_rfl
    obtain ⟨-, hpass⟩ := seqRun_seqStart P buf d (show passFuel buf ≤ 6 * n by simp only [passFuel]; omega)
    exact hloop.symm.trans hpass

/-- Settles O37, from the bounds that every transition keeps. -/
theorem cursorGrowsWithinBuffer : Obligations.CursorGrowsWithinBuffer := by
  intro P buf d n
  have hbounds := seqRun_cursorBounds P buf d n
  rw [seqRun_succ]
  exact ⟨(seqStep_cursor P hbounds).1, hbounds.cursor_le⟩

/-- Settles O34, from the rule of each row. -/
theorem sequencerFollowsTransitionTable : Obligations.SequencerFollowsTransitionTable := by
  intro P buf d N crc skip missing payload frame
  have hframe : buildFrame P d.header d.footer payload (slice buf d.marker (d.marker + 9 + N)) = frame := by
    simp [buildFrame, frame, isLargeFlag_iff, N]
  refine ⟨rfl, rfl, seqStep_scanning_none P buf d, fun h m => seqStep_scanning_some P buf d m h, fun h hshort hlast => ?_,
    fun h hshort hlast => ?_, seqStep_headerCheck_latch P buf, fun h hshort hlast => ?_, fun h hshort hlast => ?_,
    seqStep_lengthCheck_latch P buf, seqStep_checksumCheck_reject P buf, seqStep_checksumCheck_pass P buf,
    seqStep_terminatorCheck_reject P buf, seqStep_terminatorCheck_pass P buf, fun h => ?_, seqStep_idle P buf d⟩
  · rw [seqStep_headerCheck_short P buf h hshort, incompleteCandidate_last buf hlast]
  · rw [seqStep_headerCheck_short P buf h hshort, incompleteCandidate_skip buf hlast]
  · rw [seqStep_lengthCheck_short P buf h hshort, incompleteCandidate_last buf hlast]
  · rw [seqStep_lengthCheck_short P buf h hshort, incompleteCandidate_skip buf hlast]
  · rw [seqStep_decode P buf h, ← hframe]
    rfl

end Sys2Proof.Proofs
end
section
/-!
The frames of a pass in their places (44_frame_assembler R176, R177) and passes over two frames (R182, R183).
-/

namespace Sys2Proof.Machine

open Sys2Proof

/-! ### Places -/

/-- The frame stands in the buffer at the marker index it is paired with. -/
def PlacedFrame (P : Params) (buf : Bytes) (x : Nat × Frame) : Prop :=
  MarkerIndex P buf x.1 ∧ x.1 + x.2.rawBytes.length ≤ buf.length ∧
    x.2.rawBytes = slice buf x.1 (x.1 + x.2.rawBytes.length)

theorem placedFrame_of_complete {P : Params} {buf : Bytes} {m : Nat} {f : Frame} (hmarker : MarkerIndex P buf m)
    (h : parseCandidate P (buf.drop m) = .complete f) : PlacedFrame P buf (m, f) := by
  have hlength := rawBytes_length_of_complete h
  obtain ⟨hwhole, -, -, hf⟩ := parseCandidate_eq_complete h
  have hinside := hmarker.1
  rw [List.length_drop] at hwhole
  refine ⟨hmarker, show m + f.rawBytes.length ≤ buf.length by omega, ?_⟩
  rw [hlength, hf, buildFrame_rawBytes, slice_drop, Nat.add_zero]

/-- The frames that the loop adds stand at or behind its cursor, in order and disjoint: it goes on one byte past a marker it
skips (`case4` to `case6`) and behind a frame it takes (`case7`). -/
theorem passLoop_places (P : Params) (buf : Bytes) (last : Option Nat) (fuel cursor : Nat) (batch : List Frame)
    (diag : List DiagRecord) :
    ∃ l : List (Nat × Frame), (passLoop P buf last fuel cursor batch diag).batch = batch ++ l.map Prod.snd ∧
      (∀ x ∈ l, cursor ≤ x.1 ∧ PlacedFrame P buf x) ∧ l.Pairwise fun x y => x.1 + x.2.rawBytes.length ≤ y.1 := by
  fun_induction passLoop P buf last fuel cursor batch diag with
  | case1 | case2 | case3 => exact ⟨[], (List.append_nil _).symm, nofun, .nil⟩
  | case4 fuel cursor batch diag m hm _ _ ih | case5 fuel cursor batch diag m hm _ ih
  | case6 fuel cursor batch diag m hm _ ih =>
    obtain ⟨hcursor, -⟩ := (findNextSync_eq_some P buf cursor m).1 hm
    obtain ⟨l, hbatch, hplaced, hordered⟩ := ih
    refine ⟨l, hbatch, fun x hx => ?_, hordered⟩
    obtain ⟨hbehind, hplace⟩ := hplaced x hx
    exact ⟨by omega, hplace⟩
  | case7 fuel cursor batch diag m hm f hv ih =>
    obtain ⟨hcursor, hmarker, -⟩ := (findNextSync_eq_some P buf cursor m).1 hm
    obtain ⟨l, hbatch, hplaced, hordered⟩ := ih
    refine ⟨(m, f) :: l, by rw [hbatch, List.append_assoc]; rfl, fun x hx => ?_,
      .cons (fun y hy => (hplaced y hy).1) hordered⟩
    obtain rfl | hx := List.mem_cons.1 hx
    · exact ⟨hcursor, placedFrame_of_complete hmarker hv⟩
    · obtain ⟨hbehind, hplace⟩ := hplaced x hx
      exact ⟨by omega, hplace⟩

/-! ### Two frames -/

/-- The pass over a buffer that ends with a frame may visit the search three times. -/
theorem exists_visits (P : Params) (front : Bytes) (i c : Byte) (p : Bytes) :
    ∃ n, (front ++ frameBytes P i c p).length + 1 = n + 3 :=
  ⟨front.length + p.length + 7, by rw [List.length_append, frameBytes_length]; omega⟩

/-- A frame, marker-free bytes and a frame (R182). -/
theorem parsePass_two_frames {P : Params} {i c i' c' : Byte} {p p' g : Bytes} (h : p.length ≤ 65535)
    (h' : p'.length ≤ 65535)
    (hclear : ∀ j, MarkerIndex P (frameBytes P i c p ++ g ++ frameBytes P i' c' p') j →
      ¬ ((frameBytes P i c p).length ≤ j ∧ j < (frameBytes P i c p).length + g.length)) :
    parsePass P (frameBytes P i c p ++ g ++ frameBytes P i' c' p') =
      ⟨[encodedFrame P i c p, encodedFrame P i' c' p'], [], []⟩ := by
  obtain ⟨n, hn⟩ := exists_visits P (frameBytes P i c p ++ g) i' c' p'
  have hmarker := frameBytes_marker P i c p (g ++ frameBytes P i' c' p')
  have hfirst := parseCandidate_frameBytes_append P i c (g ++ frameBytes P i' c' p') h
  rw [← List.append_assoc] at hmarker hfirst
  rw [parsePass, hn, passLoop_complete (findNextSync_zero hmarker) hfirst, Nat.zero_add]
  exact passLoop_frame_at_end h' (by simp) (by simpa using hclear)

theorem frameWire_set {P : Params} {i c e : Byte} {p : Bytes} {k : U16} {j : Nat} (hj : j < p.length) (x : Byte) :
    (frameWire P i c p k e).set (6 + j) x = frameWire P i c (p.set j x) k e := by
  simp [frameWire_eq_bytes, Nat.add_comm 6 j, List.set_append_left, hj]

/-- One changed payload byte changes the checksum of the covered bytes (R106 (f)). -/
theorem computeCrc_frameBody_set_ne {i c : Byte} {p : Bytes} {j : Nat} (hj : j < p.length) {x : Byte} (hx : x ≠ p[j]) :
    computeCrc (frameBody i c (p.set j x)) ≠ computeCrc (frameBody i c p) := by
  have hchanged : frameBody i c (p.set j x) =
      [i, c] ++ u16Bytes (BitVec.ofNat 16 p.length) ++ p.take j ++ [x] ++ p.drop (j + 1) := by
    rw [frameBody, List.length_set, List.set_eq_take_append_cons_drop, if_pos hj]
    simp
  have hbody : frameBody i c p =
      [i, c] ++ u16Bytes (BitVec.ofNat 16 p.length) ++ p.take j ++ [p[j]] ++ p.drop (j + 1) := by
    simp [frameBody]
  rw [hchanged, hbody]
  exact Proofs.computeCrcDetectsOneByteChange _ _ _ _ hx

/-- A frame with a changed payload byte and a frame (R183). -/
theorem parsePass_corrupted_frame {P : Params} {i c i' c' : Byte} {p p' : Bytes} {j : Nat} {x : Byte}
    (h : p.length ≤ 65535) (h' : p'.length ≤ 65535) (hj : j < p.length) (hx : x ≠ p[j])
    (hclear : ∀ m, MarkerIndex P ((frameBytes P i c p).set (6 + j) x ++ frameBytes P i' c' p') m →
      ¬ (1 ≤ m ∧ m < ((frameBytes P i c p).set (6 + j) x).length)) :
    parsePass P ((frameBytes P i c p).set (6 + j) x ++ frameBytes P i' c' p') =
      ⟨[encodedFrame P i' c' p'], [], [⟨.checksumError, 0⟩]⟩ := by
  obtain ⟨n, hn⟩ := exists_visits P ((frameBytes P i c p).set (6 + j) x) i' c' p'
  have hfront : 1 ≤ ((frameBytes P i c p).set (6 + j) x).length := by
    rw [List.length_set, frameBytes_length]
    omega
  have hwire : (frameBytes P i c p).set (6 + j) x =
      frameWire P i c (p.set j x) (computeCrc (frameBody i c p)) P.etx := frameWire_set hj x
  have hfirst : parseCandidate P ((frameBytes P i c p).set (6 + j) x ++ frameBytes P i' c' p') = .checksumError := by
    rw [hwire, parseCandidate_frameWire_append _ _ _ _ _ _ _ (by rwa [List.length_set]),
      if_pos (computeCrc_frameBody_set_ne hj hx)]
  have hmarker : MarkerIndex P ((frameBytes P i c p).set (6 + j) x ++ frameBytes P i' c' p') 0 := by
    rw [hwire]
    exact frameWire_marker _ _ _ _ _ _ _
  rw [parsePass, hn, passLoop_checksumError (findNextSync_zero hmarker) hfirst, Nat.zero_add]
  exact passLoop_frame_at_end h' hfront hclear

end Sys2Proof.Machine
end

section
/-!
A frame fed in parts with memory on (44_frame_assembler R181): what one `ADD_DATA` makes of a part, and the state between two
of them.
-/

namespace Sys2Proof.Machine

open Sys2Proof

/-! ### `ADD_DATA` by its pass -/

theorem runPass_retained (P : Params) (buf : Bytes) (d : Datapath) :
    (runPass P buf d).retained = (parsePass P buf).retained :=
  congrArg PassResult.retained (runPass_products P buf d)

theorem exec_addData_of_configured {s : State} (hconfigured : s.configured = true) (chunk : Bytes) :
    exec (.addData chunk) s = .next (ingest chunk s) := if_pos hconfigured

/-- With memory on and a rest that the limit holds, `ADD_DATA` keeps the rest of the pass over the joined bytes and queues its
batch. -/
theorem ingest_of_pass {s : State} {chunk rest : Bytes} {batch : List Frame} {diag : List DiagRecord}
    (hmemory : s.memory = true) (hpass : parsePass s.params (s.buf ++ chunk) = ⟨batch, rest, diag⟩)
    (hfits : rest.length ≤ s.bufferLimit) : (ingest chunk s).buf = rest ∧ (ingest chunk s).queue = s.queue ++ batch := by
  have hreceive : receive s.memory s.buf chunk = s.buf ++ chunk := if_pos hmemory
  have hemit : emit s.memory s.queue batch = s.queue ++ batch := if_pos hmemory
  rw [ingest_buf, ingest_queue, hreceive, runPass_retained, runPass_batch, hpass]
  exact ⟨trimTail_of_le hfits, hemit⟩

theorem parsePass_nil (P : Params) : parsePass P [] = ⟨[], [], []⟩ :=
  parsePass_of_no_marker (not_markerIndex_short P [] Nat.two_pos)

/-! ### The parts of a frame -/

/-- What R181 asks of an initial part of the bytes `A`: it is not one lone byte, and if proper, it has no marker but the one
at index 0. -/
def PartAdmissible (P : Params) (A part : Bytes) : Prop :=
  part.length ≠ 1 ∧ (part.length < A.length → ∀ j, MarkerIndex P part j → j = 0)

/-- The pass over a proper initial part of a frame retains the whole part. -/
theorem parsePass_part {P : Params} {i c : Byte} {p part : Bytes} (h : p.length ≤ 65535)
    (hpart : part <+: frameBytes P i c p) (hproper : part.length < (frameBytes P i c p).length)
    (hadmissible : PartAdmissible P (frameBytes P i c p) part) : parsePass P part = ⟨[], part, []⟩ := by
  obtain rfl | hne := eq_or_ne part []
  · exact parsePass_nil P
  obtain ⟨hlone, honly⟩ := hadmissible
  obtain ⟨rest, hrest⟩ := hpart
  have htwo : 1 < part.length := by
    have := List.length_pos_iff.2 hne
    omega
  have hmarker : MarkerIndex P part 0 := by
    obtain ⟨-, hsync0, hsync1⟩ := frameBytes_marker P i c p []
    rw [List.append_nil, ← hrest] at hsync0 hsync1
    rw [byteAt_append_left _ _ (by omega)] at hsync0 hsync1
    exact ⟨htwo, hsync0, hsync1⟩
  have hlast : findLastSync P part = some 0 := by
    cases hfound : findLastSync P part with
    | none => exact absurd hmarker ((lastMarker_eq_none P part 0).1 hfound 0)
    | some m => rw [honly hproper m (findLastSync_eq_some hfound).1]
  have hmissing : parseCandidate P part = .missingBytes := by
    rw [parseCandidate_eq_missing]
    obtain hshort | hlong := Nat.lt_or_ge part.length 9
    · omega
    · have hdeclared : declaredLength part = p.length := by
        have hwire := frameWire_declaredLength P i c p (computeCrc (frameBody i c p)) P.etx [] h
        rw [List.append_nil] at hwire
        rw [← hwire, ← frameBytes, ← hrest, declaredLength, declaredLength, le16_append_left _ _ (by omega)]
      rwa [hdeclared, ← frameBytes_length P i c p]
  exact passLoop_missing_last (findNextSync_zero hmarker) hmissing hlast

/-- `s` has taken the initial part `fed` of a frame's bytes: as long as the part is proper it stands in the buffer, and then
the frame is queued. -/
structure Reassembling (P : Params) (i c : Byte) (p fed : Bytes) (s : State) : Prop where
  configured : s.configured = true
  memory : s.memory = true
  params : s.params = P
  limit : (frameBytes P i c p).length ≤ s.bufferLimit
  progress : (fed.length < (frameBytes P i c p).length ∧ s.buf = fed ∧ s.queue = []) ∨
    (fed = frameBytes P i c p ∧ s.buf = [] ∧ s.queue = [encodedFrame P i c p])

/-- One more chunk of the frame: the part grows, the frame is completed, or, behind it, the chunk is empty. -/
theorem Reassembling.ingest {P : Params} {i c : Byte} {p fed chunk : Bytes} {s : State}
    (hs : Reassembling P i c p fed s) (h : p.length ≤ 65535) (hpart : fed ++ chunk <+: frameBytes P i c p)
    (hadmissible : PartAdmissible P (frameBytes P i c p) (fed ++ chunk)) :
    Reassembling P i c p (fed ++ chunk) (ingest chunk s) := by
  obtain ⟨hconfigured, hmemory, rfl, hlimit, hprogress⟩ := hs
  refine ⟨hconfigured, hmemory, rfl, hlimit, ?_⟩
  obtain ⟨-, rfl, hqueue⟩ | ⟨rfl, hbuf, hqueue⟩ := hprogress
  · obtain hproper | hwhole := Nat.lt_or_ge (s.buf ++ chunk).length (frameBytes s.params i c p).length
    · have hpass := parsePass_part h hpart hproper hadmissible
      obtain ⟨hbuf, hbatch⟩ := ingest_of_pass hmemory hpass (by omega)
      exact .inl ⟨hproper, hbuf, by rw [hbatch, hqueue]; rfl⟩
    · have heq := hpart.eq_of_length_le hwhole
      have hpass : parsePass s.params (s.buf ++ chunk) = ⟨[encodedFrame s.params i c p], [], []⟩ := by
        rw [heq, parsePass_frameBytes s.params i c h]
      obtain ⟨hbuf, hbatch⟩ := ingest_of_pass hmemory hpass (Nat.zero_le _)
      exact .inr ⟨heq, hbuf, by rw [hbatch, hqueue]; rfl⟩
  · obtain rfl : chunk = [] := by simpa using hpart.length_le
    have hpass : parsePass s.params (s.buf ++ []) = ⟨[], [], []⟩ := by rw [hbuf, List.append_nil, parsePass_nil]
    obtain ⟨hrest, hbatch⟩ := ingest_of_pass hmemory hpass (Nat.zero_le _)
    exact .inr ⟨List.append_nil _, hrest, by rw [hbatch, hqueue]; rfl⟩

/-- Feeding the rest of the frame, chunk by chunk. -/
theorem Reassembling.runInstrs {P : Params} {i c : Byte} {p : Bytes} (h : p.length ≤ 65535) (chunks : List Bytes)
    {fed : Bytes} {s : State} (hs : Reassembling P i c p fed s) (hcut : fed ++ chunks.flatten = frameBytes P i c p)
    (hadmissible : ∀ k, PartAdmissible P (frameBytes P i c p) (fed ++ (chunks.take k).flatten)) :
    ∃ t, runInstrs (chunks.map .addData) s = some t ∧ Reassembling P i c p (frameBytes P i c p) t := by
  induction chunks generalizing fed s with
  | nil =>
    rw [List.flatten_nil, List.append_nil] at hcut
    exact ⟨s, rfl, hcut ▸ hs⟩
  | cons chunk chunks ih =>
    rw [List.flatten_cons, ← List.append_assoc] at hcut
    have hnext : Reassembling P i c p (fed ++ chunk) (Machine.ingest chunk s) :=
      hs.ingest h ⟨_, hcut⟩ (by simpa using hadmissible 1)
    rw [List.map_cons, runInstrs_cons_of_next (exec_addData_of_configured hs.configured chunk)]
    exact ih hnext hcut fun k => by simpa using hadmissible (k + 1)

end Sys2Proof.Machine
end

section
/-!
Every host operation answers a next state (44_frame_assembler R175; 20_memory R63).
-/

namespace Sys2Proof.Machine

open Sys2Proof

theorem execInit_next (m : Byte) (L : Nat) (s : State) : ∃ t, execInit m L s = .next t := by
  unfold execInit
  split <;> exact ⟨_, rfl⟩

theorem execGetFrames_next (s : State) : ∃ t, execGetFrames s = .next t := by
  unfold execGetFrames
  split <;> exact ⟨_, rfl⟩

theorem exec_hostOp_next {i : Instr} (hformat : i.format = .hostOp) (s : State) : ∃ t, exec i s = .next t := by
  cases i with
  | init m L => exact execInit_next m L s
  | addData chunk => exact execAddData_next chunk s
  | getFrames => exact execGetFrames_next s
  | reservedOp03 | reservedOp04 | reservedOp08 | reservedOp10 | reservedOp20 | reservedOp40 | reservedOp80 =>
    exact ⟨_, rfl⟩
  | _ => cases hformat

end Sys2Proof.Machine
end

section
/-!
The statements about batches, two frames, a frame in parts and the buffer's bound (44_frame_assembler R176 to R184), and the
step that always answers (20_memory R63).
-/

namespace Sys2Proof.Proofs

open Sys2Proof Sys2Proof.Machine

/-- Settles O38: every frame of a batch is the verdict on a candidate at a marker. -/
theorem batchFramesAreSound : Obligations.BatchFramesAreSound := fun _ _ _ => frameSound_of_mem_batch

/-- Settles O39: the loop starts at cursor 0 with no frame, so its places are all the frames of the batch. -/
theorem batchSpansAreDisjointAndInOrder : Obligations.BatchSpansAreDisjointAndInOrder := by
  intro P buf
  obtain ⟨l, hbatch, hplaced, hordered⟩ := passLoop_places P buf (findLastSync P buf) (buf.length + 1) 0 [] []
  exact ⟨l, hbatch.symm, fun x hx => (hplaced x hx).2, hordered⟩

/-- Settles O41: the empty buffer is the empty part of the frame. -/
theorem splitFrameIsReassembled : Obligations.SplitFrameIsReassembled := by
  intro s i c p chunks hconfigured hmemory hbuf hqueue h hcut hlimit hlone honly
  have hnonempty : 0 < (frameBytes s.params i c p).length := by
    rw [frameBytes_length]
    omega
  have hstart : Reassembling s.params i c p [] s := ⟨hconfigured, hmemory, rfl, hlimit, .inl ⟨hnonempty, hbuf, hqueue⟩⟩
  obtain ⟨t, hrun, ht⟩ := hstart.runInstrs h chunks hcut fun k => ⟨hlone k, honly k⟩
  obtain ⟨hproper, -⟩ | ⟨-, hempty, hqueued⟩ := ht.progress
  · exact absurd hproper (Nat.lt_irrefl _)
  · exact ⟨t, _, hrun, hqueued, rfl, hempty⟩

/-- Settles O42: the first visit takes `A`, and the search from its end stops at `B`. -/
theorem garbageBetweenFramesIsSkipped : Obligations.GarbageBetweenFramesIsSkipped := by
  intro P i c i' c' p p' g h h' A B hclear
  exact ⟨_, _, congrArg PassResult.batch (parsePass_two_frames h h' hclear), rfl, rfl⟩

/-- Settles O43: the first visit rejects the changed frame, and the search from its second byte stops at `B`. -/
theorem corruptedPayloadIsRejected : Obligations.CorruptedPayloadIsRejected := by
  intro P i c i' c' p p' k x h h' hk hx A B hclear
  exact ⟨_, parsePass_corrupted_frame h h' hk hx hclear, rfl⟩

/-- Settles O44: the trim bounds the buffer, and a search without a marker ends the pass at once. -/
theorem bufferBoundAfterAddData : Obligations.BufferBoundAfterAddData := by
  refine ⟨fun s t chunk hconfigured hnext => ?_, fun _ _ => parsePass_of_no_marker⟩
  rw [exec_addData_of_configured hconfigured] at hnext
  cases hnext
  exact trimTail_length_le _ _

/-- Settles O54: a reset and a wait answer, and only host operations are fetched. -/
theorem stepAlwaysAnswersNext : Obligations.StepAlwaysAnswersNext := by
  intro s
  cases hreset : s.resetReq with
  | true => exact ⟨_, step_of_reset_pending hreset⟩
  | false =>
    cases hdecode : decode s.input with
    | ok word =>
      rw [step_of_decode_ok hreset hdecode]
      exact exec_hostOp_next (decode_format hdecode) _
    | error e => exact ⟨s, step_of_decode_error hreset hdecode⟩

end Sys2Proof.Proofs
end

section
/-!
The host operations as instructions (45_host_operations R190, R191, R197, R198, R201, R202; 30_encoding R91): one rule for
each outcome.
-/

namespace Sys2Proof.Machine

open Sys2Proof

/-! ### INIT -/

theorem validConfig_iff (m : Byte) (L : Nat) :
    validConfig m L = true ↔ (m = 0x00#8 ∨ m = 0x01#8) ∧ 1 ≤ L := by
  simp [validConfig]

theorem exec_init_of_valid {m : Byte} {L : Nat} (hmemory : m = 0x00#8 ∨ m = 0x01#8) (hlimit : 1 ≤ L) (s : State) :
    exec (.init m L) s = .next (configure (decide (m = 0x01#8)) L s) :=
  if_pos ((validConfig_iff m L).2 ⟨hmemory, hlimit⟩)

theorem exec_init_of_invalid {m : Byte} {L : Nat} (h : (m ≠ 0x00#8 ∧ m ≠ 0x01#8) ∨ L = 0) (s : State) :
    exec (.init m L) s = .next (raiseConfigError s) := by
  refine if_neg fun hvalid => ?_
  obtain ⟨hmemory, hlimit⟩ := (validConfig_iff m L).1 hvalid
  obtain ⟨hzero, hone⟩ | rfl := h
  · exact hmemory.elim hzero hone
  · exact Nat.not_succ_le_zero 0 hlimit

/-! ### ADD_DATA, ADD_FRAME and GET_FRAMES -/

theorem exec_addData_of_unconfigured {s : State} (h : s.configured = false) (chunk : Bytes) :
    exec (.addData chunk) s = .next (refuseNotConfigured s) :=
  if_neg (by rw [h]; exact Bool.false_ne_true)

theorem exec_getFrames_of_unconfigured {s : State} (h : s.configured = false) :
    exec .getFrames s = .next (refuseNotConfigured s) :=
  if_neg (by rw [h]; exact Bool.false_ne_true)

theorem exec_getFrames_of_configured {s : State} (h : s.configured = true) :
    exec .getFrames s = .next (respond (.frames s.queue) { s with queue := [] }) := if_pos h

/-- `ADD_FRAME` is `ADD_DATA` of the frame's bytes (R91). -/
theorem exec_addFrame_of_fits {p : Bytes} (h : p.length ≤ 65535) (i c : Byte) (s : State) :
    exec (.addFrame i c p) s = exec (.addData (frameBytes s.params i c p)) s := if_pos ((payloadFits_iff p).2 h)

/-! ### The reserved operation bytes -/

theorem exec_of_reservedRow {i : Instr} (hrow : ReservedRow i) (s : State) : exec i s = .next (refuseBadOp s) := by
  obtain rfl | ⟨_, rfl⟩ | ⟨_, rfl⟩ | ⟨_, rfl⟩ | ⟨_, rfl⟩ | ⟨_, rfl⟩ | ⟨_, rfl⟩ := hrow <;> rfl

theorem decodeReserved_row (b : Byte) : ReservedRow (decodeReserved b) := by
  unfold decodeReserved
  split_ifs <;> simp [ReservedRow]

/-- A run of reserved operations answers `BadOp` once for each of them, and leaves the queue alone (R202). -/
theorem runInstrs_of_reservedRows {is : List Instr} (hrows : ∀ i ∈ is, ReservedRow i) (s : State) :
    ∃ t, runInstrs is s = some t ∧ t.configured = s.configured ∧ t.queue = s.queue ∧
      t.responses = s.responses ++ List.replicate is.length .badOp := by
  induction is generalizing s with
  | nil => exact ⟨s, rfl, rfl, rfl, (List.append_nil _).symm⟩
  | cons i is ih =>
    obtain ⟨hrow, hrows⟩ := List.forall_mem_cons.1 hrows
    obtain ⟨t, hrun, hconfigured, hqueue, hresponses⟩ := ih hrows (refuseBadOp s)
    refine ⟨t, (runInstrs_cons_of_next (exec_of_reservedRow hrow s) is).trans hrun, hconfigured, hqueue, ?_⟩
    rw [hresponses, refuseBadOp_responses, List.append_assoc]
    rfl

end Sys2Proof.Machine
end

section
/-!
`ADD_DATA` by the pure pass (45_host_operations R192 to R197): the products it keeps, the pass over a pending candidate
(R195), whole frames fed one by one (R203, R204), and what the host has received (R205).
-/

namespace Sys2Proof.Machine

open Sys2Proof

/-! ### The products of the pass -/

theorem runPass_diag (P : Params) (buf : Bytes) (d : Datapath) : (runPass P buf d).diag = (parsePass P buf).diag :=
  congrArg PassResult.diag (runPass_products P buf d)

section

variable (chunk : Bytes) (s : State)

theorem ingest_buf_eq : (ingest chunk s).buf =
    trimTail (parsePass s.params (receive s.memory s.buf chunk)).retained s.bufferLimit := by
  rw [ingest_buf, runPass_retained]

theorem ingest_queue_eq : (ingest chunk s).queue =
    emit s.memory s.queue (parsePass s.params (receive s.memory s.buf chunk)).batch := by
  rw [ingest_queue, runPass_batch]

theorem ingest_responses_eq : (ingest chunk s).responses =
    s.responses ++ [.okDiag (parsePass s.params (receive s.memory s.buf chunk)).diag] := by
  rw [ingest_responses, runPass_diag]

end

/-! ### The pass over a pending candidate -/

theorem findLastSync_of_only_marker {P : Params} {buf : Bytes} {m : Nat} (hmarker : MarkerIndex P buf m)
    (honly : ∀ i, MarkerIndex P buf i → i = m) : findLastSync P buf = some m := by
  cases hfound : findLastSync P buf with
  | none => exact absurd hmarker ((lastMarker_eq_none P buf 0).1 hfound m)
  | some k => rw [honly k (findLastSync_eq_some hfound).1]

/-- A pending candidate is retained whole: its one visit is at the last marker (R161, R195). -/
theorem parsePass_of_pending {P : Params} {buf : Bytes} (h : PendingCandidate P buf) :
    parsePass P buf = ⟨[], buf, []⟩ := by
  obtain rfl | ⟨hmarker, honly, hshort⟩ := h
  · exact parsePass_nil P
  · have hmissing : parseCandidate P buf = .missingBytes := by
      rw [parseCandidate_eq_missing, declaredLength]
      omega
    exact passLoop_missing_last (findNextSync_zero hmarker) hmissing (findLastSync_of_only_marker hmarker honly)

/-! ### Whole frames -/

/-- `ADD_FRAME` where no pending bytes come before it: the frame is queued, nothing is left in the buffer and no record is
made (R180, R197). -/
theorem exec_addFrame_alone {s : State} {p : Bytes} (i c : Byte) (hconfigured : s.configured = true)
    (halone : s.memory = false ∨ s.buf = []) (h : p.length ≤ 65535) :
    ∃ t, exec (.addFrame i c p) s = .next t ∧ t.configured = true ∧ t.memory = s.memory ∧ t.params = s.params ∧
      t.buf = [] ∧ t.queue = emit s.memory s.queue [encodedFrame s.params i c p] ∧
      t.responses = s.responses ++ [.okDiag []] := by
  have hwhole : receive s.memory s.buf (frameBytes s.params i c p) = frameBytes s.params i c p := by
    obtain hmemory | hbuf := halone
    · rw [hmemory]
      rfl
    · rw [hbuf]
      exact ite_self _
  rw [exec_addFrame_of_fits h, exec_addData_of_configured hconfigured]
  refine ⟨_, rfl, hconfigured, rfl, rfl, ?_⟩
  rw [ingest_buf_eq, ingest_queue_eq, ingest_responses_eq, hwhole, parsePass_frameBytes s.params i c h]
  exact ⟨trimTail_of_le (Nat.zero_le _), rfl, rfl⟩

/-- Two `ADD_FRAME` and a drain: the host receives the queue that the two frames leave, by the memory flag (R196, R198). -/
theorem runInstrs_two_frames_drain {s : State} {p p' : Bytes} (i c i' c' : Byte) (hconfigured : s.configured = true)
    (halone : s.memory = false ∨ s.buf = []) (h : p.length ≤ 65535) (h' : p'.length ≤ 65535) :
    ∃ t, runInstrs [.addFrame i c p, .addFrame i' c' p', .getFrames] s = some t ∧
      t.responses = s.responses ++ [.okDiag [], .okDiag [],
        .frames (emit s.memory (emit s.memory s.queue [encodedFrame s.params i c p]) [encodedFrame s.params i' c' p'])] ∧
      t.queue = [] := by
  obtain ⟨u, hu, huconfigured, humemory, huparams, hubuf, huqueue, huresponses⟩ :=
    exec_addFrame_alone i c hconfigured halone h
  obtain ⟨v, hv, hvconfigured, -, -, -, hvqueue, hvresponses⟩ :=
    exec_addFrame_alone i' c' huconfigured (.inr hubuf) h'
  rw [runInstrs_cons_of_next hu, runInstrs_cons_of_next hv,
    runInstrs_cons_of_next (exec_getFrames_of_configured hvconfigured)]
  refine ⟨_, rfl, ?_, rfl⟩
  rw [respond_responses, hvresponses, huresponses, hvqueue, huqueue, humemory, huparams]
  simp

/-! ### What the host has received -/

theorem delivered_of_frames {s t : State} {fs : List Frame} (h : t.responses = s.responses ++ [.frames fs]) :
    delivered t = delivered s ++ fs := by
  simp [delivered, h]

theorem delivered_of_okDiag {s t : State} {diag : List DiagRecord} (h : t.responses = s.responses ++ [.okDiag diag]) :
    delivered t = delivered s := by
  simp [delivered, h]

end Sys2Proof.Machine
end

section
/-!
Between two drains (45_host_operations R200): what an instruction that adds no frame keeps.
-/

namespace Sys2Proof.Machine

open Sys2Proof

/-- A configured block with nothing to drain, whose host has received at least `received`. -/
structure Drained (received : List Response) (s : State) : Prop where
  configured : s.configured = true
  queue : s.queue = []
  received : received <+: s.responses

theorem Drained.of_sameArch {received : List Response} {s t : State} (hs : Drained received s) (h : SameArch s t) :
    Drained received t := by
  obtain ⟨hconfigured, -, -, -, hqueue, -, -, -, hresponses⟩ := h
  exact ⟨hconfigured.trans hs.configured, hqueue.trans hs.queue, hresponses ▸ hs.received⟩

/-- Right after a drain. -/
theorem drained_drain {s : State} (h : s.configured = true) :
    Drained (s.responses ++ [.frames s.queue]) (respond (.frames s.queue) { s with queue := [] }) :=
  ⟨h, rfl, [], List.append_nil _⟩

/-- An instruction between the drains adds no frame and leaves the block configured: host operations by their rules, the
others because they leave the architectural state alone or write the buffer only. -/
theorem Drained.exec {received : List Response} {i : Instr} {s t : State} (hs : Drained received s)
    (hi : BetweenDrains i) (hnext : exec i s = .next t) : Drained received t := by
  obtain ⟨hdata, hframe, hreset, hinit⟩ := hi
  obtain ⟨hconfigured, hqueue, hreceived⟩ := hs
  have hgrown (r : Response) : received <+: s.responses ++ [r] := hreceived.trans ⟨[r], rfl⟩
  cases i with
  | init m L =>
    obtain ⟨hmemory, hlimit⟩ := hinit m L rfl
    rw [exec_init_of_valid hmemory hlimit] at hnext
    cases hnext
    exact ⟨rfl, rfl, hgrown _⟩
  | addData chunk => exact absurd rfl (hdata chunk)
  | addFrame a b p => exact absurd rfl (hframe a b p)
  | reset => exact absurd rfl hreset
  | getFrames =>
    rw [exec_getFrames_of_configured hconfigured] at hnext
    cases hnext
    exact ⟨hconfigured, rfl, hgrown _⟩
  | reservedOp03 | reservedOp04 | reservedOp08 | reservedOp10 | reservedOp20 | reservedOp40 | reservedOp80 =>
    cases hnext
    exact ⟨hconfigured, hqueue, hgrown _⟩
  | trim =>
    cases hnext
    exact ⟨hconfigured, hqueue, hreceived⟩
  | _ =>
    obtain ⟨hsame, -⟩ := Proofs.microOperationsLeaveArchitectureAlone _ _ _ hnext nofun nofun nofun nofun
    exact .of_sameArch ⟨hconfigured, hqueue, hreceived⟩ hsame

theorem Drained.runInstrs {received : List Response} {is : List Instr} (his : ∀ i ∈ is, BetweenDrains i) {s u : State}
    (hs : Drained received s) (hrun : runInstrs is s = some u) : Drained received u := by
  induction is generalizing s with
  | nil =>
    cases hrun
    exact hs
  | cons i is ih =>
    obtain ⟨hi, his⟩ := List.forall_mem_cons.1 his
    rw [Machine.runInstrs] at hrun
    split at hrun
    next t hnext => exact ih his (hs.exec hi hnext) hrun
    next => cases hrun

end Sys2Proof.Machine
end

section
/-!
The statements about the host operations (45_host_operations R190 to R205).
-/

namespace Sys2Proof.Proofs

open Sys2Proof Sys2Proof.Machine

/-- Settles O4: `ingest` does the four steps with the run of the sequencer, whose products are the pure pass's. -/
theorem addDataWritesPassesTrimsQueues : Obligations.AddDataWritesPassesTrimsQueues := by
  intro s chunk hconfigured whole r
  have hnext := exec_addData_of_configured hconfigured chunk
  refine ⟨ingest chunk s, hnext, fun i c p h hchunk => ?_, ingest_buf_eq chunk s, ingest_queue_eq chunk s,
    ingest_responses_eq chunk s, rfl, rfl, rfl, rfl, rfl, rfl, rfl, runPass_seqState _ _ _⟩
  rw [exec_addFrame_of_fits h, ← hchunk, hnext]

/-- Settles O7: reserved operations only answer; and every instruction between the drains keeps the block configured and its
queue empty. -/
theorem secondDrainIsEmpty : Obligations.SecondDrainIsEmpty := by
  intro s mid hconfigured
  have hfirst := exec_getFrames_of_configured hconfigured
  constructor
  · intro hrows
    obtain ⟨u, hmid, huconfigured, huqueue, huresponses⟩ :=
      runInstrs_of_reservedRows hrows (respond (.frames s.queue) { s with queue := [] })
    rw [respond_configured, hconfigured] at huconfigured
    rw [runInstrs_append, List.singleton_append, runInstrs_cons_of_next hfirst, hmid, Option.bind_some,
      runInstrs_cons_of_next (exec_getFrames_of_configured huconfigured)]
    refine ⟨_, rfl, ?_, rfl⟩
    rw [respond_responses, huresponses, huqueue]
    rfl
  · intro hbetween u hrun
    rw [List.singleton_append, runInstrs_cons_of_next hfirst] at hrun
    obtain ⟨huconfigured, huqueue, rs, hreceived⟩ := (drained_drain hconfigured).runInstrs hbetween hrun
    refine ⟨rs, _, hreceived.symm, exec_getFrames_of_configured huconfigured, ?_, rfl⟩
    rw [respond_responses, huqueue]

/-- Settles O8: each row refuses its byte, and a byte from 3 on decodes to one of the rows. -/
theorem reservedOperationsAnswerBadOp : Obligations.ReservedOperationsAnswerBadOp := by
  refine ⟨fun s => ⟨rfl, fun _ => rfl, fun _ => rfl, fun _ => rfl, fun _ => rfl, fun _ => rfl, fun _ => rfl⟩,
    fun s b rest hb hreset hinput => ?_⟩
  have hdecode : decode s.input = .ok (decodeReserved b, rest) := by rw [hinput, decode_reserved_cons hb]
  rw [step_of_decode_ok hreset hdecode, exec_of_reservedRow (decodeReserved_row b)]
  rfl

/-- Settles O9: with memory on the pass retains the pending candidate whole; with memory off the pass has no bytes. -/
theorem emptyChunkRescansOrDiscards : Obligations.EmptyChunkRescansOrDiscards := by
  intro s hconfigured
  have hnext := exec_addData_of_configured hconfigured []
  constructor
  · intro hmemory hpending hfits
    have hreceive : receive s.memory s.buf [] = s.buf := by
      rw [hmemory]
      exact List.append_nil _
    refine ⟨_, hnext, ?_⟩
    rw [ingest_buf_eq, ingest_queue_eq, ingest_responses_eq, hreceive, parsePass_of_pending hpending, hmemory]
    exact ⟨trimTail_of_le hfits, List.append_nil _, rfl⟩
  · intro hmemory
    have hreceive : receive s.memory s.buf [] = [] := by
      rw [hmemory]
      rfl
    refine ⟨_, hnext, ?_⟩
    rw [ingest_buf_eq, ingest_queue_eq, ingest_responses_eq, hreceive, parsePass_nil, hmemory]
    exact ⟨trimTail_of_le (Nat.zero_le _), rfl, rfl⟩

/-- Settles O10: with memory off the second frame's batch replaces the first's. -/
theorem memoryOffKeepsOnlyLatestFrame : Obligations.MemoryOffKeepsOnlyLatestFrame := by
  intro s i c i' c' p p' hconfigured hmemory h h'
  obtain ⟨t, hrun, hresponses, hqueue⟩ := runInstrs_two_frames_drain i c i' c' hconfigured (.inl hmemory) h h'
  rw [hmemory] at hresponses
  exact ⟨t, encodedFrame s.params i' c' p', hrun, hresponses, rfl, hqueue⟩

/-- Settles O11: with memory on the second frame's batch comes after the first's. -/
theorem memoryOnAccumulatesInOrder : Obligations.MemoryOnAccumulatesInOrder := by
  intro s i c i' c' p p' hconfigured hmemory hbuf hempty h h'
  obtain ⟨t, hrun, hresponses, hqueue⟩ := runInstrs_two_frames_drain i c i' c' hconfigured (.inr hbuf) h h'
  rw [hmemory, hempty] at hresponses
  exact ⟨t, encodedFrame s.params i c p, encodedFrame s.params i' c' p', hrun, hresponses, rfl, rfl, hqueue⟩

/-- Settles O12: a drain's response is the queue, and `ADD_DATA` responds no frames and appends its batch. -/
theorem framesDeliveredOnceInOrder : Obligations.FramesDeliveredOnceInOrder := by
  intro s t hconfigured
  constructor
  · intro hnext
    rw [exec_getFrames_of_configured hconfigured] at hnext
    cases hnext
    exact ⟨delivered_of_frames rfl, rfl⟩
  · intro chunk hmemory hnext
    rw [exec_addData_of_configured hconfigured] at hnext
    cases hnext
    refine ⟨delivered_of_okDiag (ingest_responses chunk s), ?_⟩
    rw [ingest_queue_eq, hmemory]
    rfl

/-- Settles O1, from the rule of a valid `INIT`. -/
theorem initValidConfiguresAndEmpties : Obligations.InitValidConfiguresAndEmpties := fun s _ _ hmemory hlimit =>
  ⟨_, exec_init_of_valid hmemory hlimit s, rfl, decide_eq_true_iff, rfl, rfl, rfl, rfl, rfl, rfl, rfl, rfl, rfl⟩

/-- Settles O5, from the rules of the two operations on an unconfigured block. -/
theorem unconfiguredOperationsAnswerNotConfigured : Obligations.UnconfiguredOperationsAnswerNotConfigured := fun _ h =>
  ⟨exec_addData_of_unconfigured h, exec_getFrames_of_unconfigured h⟩

/-- Settles O2: the block that `ConfigError` leaves is unconfigured, and refuses both operations as any other. -/
theorem initInvalidRaisesConfigError : Obligations.InitInvalidRaisesConfigError := fun s _ _ hinvalid =>
  ⟨_, exec_init_of_invalid hinvalid s, rfl, rfl, rfl, rfl, rfl, rfl, rfl,
    unconfiguredOperationsAnswerNotConfigured (raiseConfigError s) rfl⟩

/-- Settles O6, from the rule of a drain. -/
theorem getFramesReturnsAndEmptiesQueue : Obligations.GetFramesReturnsAndEmptiesQueue := fun _ =>
  exec_getFrames_of_configured

end Sys2Proof.Proofs
end

section
/-!
What a valid `INIT` overwrites (45_host_operations R190; 70_reset_and_hazards R241): the architectural state after it
depends on the state before only through the parameters and the host's side.
-/

namespace Sys2Proof.Machine

open Sys2Proof

/-- The host's side is the model's own (log 8, 9, 11). -/
theorem configure_sameArch (memory : Bool) (limit : Nat) {s t : State} (hparams : t.params = s.params)
    (hinput : t.input = s.input) (hreset : t.resetReq = s.resetReq) (hresponses : t.responses = s.responses) :
    SameArch (configure memory limit s) (configure memory limit t) := by
  refine ⟨rfl, rfl, rfl, rfl, rfl, hparams, hinput, hreset, ?_⟩
  rw [configure_responses, configure_responses, hresponses]

theorem configure_seqState (memory : Bool) (limit : Nat) (s : State) :
    (configure memory limit s).dp.seqState = .idle := rfl

end Sys2Proof.Machine
end

section
/-!
The statements about reset and re-initialisation (70_reset_and_hazards R240, R241).
-/

namespace Sys2Proof.Proofs

open Sys2Proof Sys2Proof.Machine

/-- Settles O57: the reset event writes the architectural state and the transient one, and nothing on the host's side but
its own request. -/
theorem resetEventEmptiesInstance : Obligations.ResetEventEmptiesInstance := fun _ =>
  ⟨_, rfl, rfl, rfl, rfl, rfl, rfl, rfl, rfl, rfl, rfl⟩

/-- Settles O56: the reset state is unconfigured, and so owes the invariant only its idle sequencer. -/
theorem resetStateIsEmptyAndIdle : Obligations.ResetStateIsEmptyAndIdle :=
  ⟨rfl, rfl, rfl, rfl, .of_unconfigured rfl rfl⟩

/-- Settles O3: the reset event keeps the parameters and the host's side, which is all that a valid `INIT` leaves of the
state before it; with no reset pending it keeps the request too. -/
theorem reinitEqualsResetThenInit : Obligations.ReinitEqualsResetThenInit := by
  intro s m L hpending hmemory hlimit
  obtain ⟨r, hreset, -, -, -, -, hserved, hparams, hinput, hresponses, -⟩ := resetEventEmptiesInstance s
  refine ⟨_, _, runInstrs_cons_of_next (exec_init_of_valid hmemory hlimit s) [],
    (runInstrs_cons_of_next hreset _).trans (runInstrs_cons_of_next (exec_init_of_valid hmemory hlimit r) []), ?_, ?_⟩
  · exact configure_sameArch _ L hparams hinput (hserved.trans hpending.symm) hresponses
  · rw [configure_seqState, configure_seqState]

end Sys2Proof.Proofs
end
